-- ==== Sys2Proof/Word.lean ====
section
/-! DEFINITION. The words of the decoder core: bytes, the command word, the frame word and the frame's 14 bytes. -/

namespace Sys2Proof

/-- One byte of a frame; bit 0 is the least significant (00_scope.md R7). -/
abbrev Byte := BitVec 8

/-- The 10-bit command word, `CMD[9:8] = op`, `CMD[7:0] = data` (30_encoding.md R91). -/
abbrev CmdWord := BitVec 10

/-- The 14 bytes of a frame, byte 0 first (00_scope.md R6, R7). -/
abbrev FrameBytes := Vector Byte 14

/-- The same 14 bytes as one word W, byte 0 most significant (00_scope.md R8). -/
abbrev FrameWord := BitVec 112

end Sys2Proof
end

