-- ==== Sys2Proof/Syntax.lean ====
section
/-! DEFINITION. The instructions: one constructor per row of spec/opcode_table.json. The four CMD rows
are the port commands (30_encoding.md R91), the forty FRAME rows are the classes of a validated frame
(30_encoding.md R99), each with the operand fields its row leaves free (30_encoding.md R92). -/

namespace Sys2Proof

/-- The operand fields every frame class leaves free (30_encoding.md R92). `bat` is byte 7 bit 1, the
place of the low-battery flag under LOWBAT_MASK = 0x02. -/
structure FrameOps where
  ridx      : BitVec 3
  d1        : BitVec 4
  d2        : BitVec 4
  d3        : BitVec 4
  d4        : BitVec 4
  d5        : BitVec 4
  minus     : Bool
  bat       : Bool
  overload  : Bool
  rel       : Bool
  underload : Bool
  max       : Bool
  min       : Bool
  dc        : Bool
  ac        : Bool
  auto      : Bool
  hold      : Bool
  deriving DecidableEq, Repr

/-- All the fields of a frame: the mode selector and the two bits that change the decoding
(30_encoding.md R99, R100), and the operands. -/
structure FrameFields where
  msel    : BitVec 4
  percent : Bool
  hz      : Bool
  ops     : FrameOps
  deriving DecidableEq, Repr

/-- The instructions of spec/opcode_table.json, in the table's order. -/
inductive Instr where
  /-- R121. -/
  | nop
  /-- R122: the operand is the byte of the candidate frame. -/
  | push (b : Byte)
  /-- R123. -/
  | dec
  /-- R124. -/
  | rst
  /-- R162: selector 0x0, mode "amps", plain form. -/
  | decA10 (o : FrameOps)
  /-- R162: selector 0x0, mode "amps", frequency form. -/
  | decA10Hz (o : FrameOps)
  /-- R162: selector 0x0, mode "amps", percent form (hz any). -/
  | decA10Pct (hz : Bool) (o : FrameOps)
  /-- R163: selector 0x1, mode "diode", plain form. -/
  | decDiode (o : FrameOps)
  /-- R163: selector 0x1, mode "diode", frequency form. -/
  | decDiodeHz (o : FrameOps)
  /-- R163: selector 0x1, mode "diode", percent form (hz any). -/
  | decDiodePct (hz : Bool) (o : FrameOps)
  /-- R164: selector 0x2, mode "frequency", plain form. -/
  | decFreq (o : FrameOps)
  /-- R164: selector 0x2, mode "frequency", frequency form. -/
  | decFreqHz (o : FrameOps)
  /-- R164: selector 0x2, mode "frequency", percent form (hz any). -/
  | decFreqPct (hz : Bool) (o : FrameOps)
  /-- R165: selector 0x3, mode "resistance", plain form. -/
  | decOhm (o : FrameOps)
  /-- R165: selector 0x3, mode "resistance", frequency form. -/
  | decOhmHz (o : FrameOps)
  /-- R165: selector 0x3, mode "resistance", percent form (hz any). -/
  | decOhmPct (hz : Bool) (o : FrameOps)
  /-- R166: selector 0x4, mode "temperature", plain form. -/
  | decTemp (o : FrameOps)
  /-- R166: selector 0x4, mode "temperature", frequency form. -/
  | decTempHz (o : FrameOps)
  /-- R166: selector 0x4, mode "temperature", percent form (hz any). -/
  | decTempPct (hz : Bool) (o : FrameOps)
  /-- R167: selector 0x5, mode "continuity", plain form. -/
  | decCont (o : FrameOps)
  /-- R167: selector 0x5, mode "continuity", frequency form. -/
  | decContHz (o : FrameOps)
  /-- R167: selector 0x5, mode "continuity", percent form (hz any). -/
  | decContPct (hz : Bool) (o : FrameOps)
  /-- R168: selector 0x6, mode "capacitance", plain form. -/
  | decCap (o : FrameOps)
  /-- R168: selector 0x6, mode "capacitance", frequency form. -/
  | decCapHz (o : FrameOps)
  /-- R168: selector 0x6, mode "capacitance", percent form (hz any). -/
  | decCapPct (hz : Bool) (o : FrameOps)
  /-- R169: selector 0x7, no mode in ROM_DEFAULT (percent and hz any). -/
  | decRsvd7 (percent : Bool) (hz : Bool) (o : FrameOps)
  /-- R170: selector 0x8, no mode in ROM_DEFAULT (percent and hz any). -/
  | decRsvd8 (percent : Bool) (hz : Bool) (o : FrameOps)
  /-- R171: selector 0x9, mode "amps-manual", plain form. -/
  | decAman (o : FrameOps)
  /-- R171: selector 0x9, mode "amps-manual", frequency form. -/
  | decAmanHz (o : FrameOps)
  /-- R171: selector 0x9, mode "amps-manual", percent form (hz any). -/
  | decAmanPct (hz : Bool) (o : FrameOps)
  /-- R172: selector 0xA, no mode in ROM_DEFAULT (percent and hz any). -/
  | decRsvd10 (percent : Bool) (hz : Bool) (o : FrameOps)
  /-- R173: selector 0xB, mode "voltage", plain form. -/
  | decV (o : FrameOps)
  /-- R173: selector 0xB, mode "voltage", frequency form. -/
  | decVHz (o : FrameOps)
  /-- R173: selector 0xB, mode "voltage", percent form (hz any). -/
  | decVPct (hz : Bool) (o : FrameOps)
  /-- R174: selector 0xC, no mode in ROM_DEFAULT (percent and hz any). -/
  | decRsvd12 (percent : Bool) (hz : Bool) (o : FrameOps)
  /-- R175: selector 0xD, mode "micro-amps", plain form. -/
  | decUa (o : FrameOps)
  /-- R175: selector 0xD, mode "micro-amps", frequency form. -/
  | decUaHz (o : FrameOps)
  /-- R175: selector 0xD, mode "micro-amps", percent form (hz any). -/
  | decUaPct (hz : Bool) (o : FrameOps)
  /-- R176: selector 0xE, mode "adp", plain form. -/
  | decAdp (o : FrameOps)
  /-- R176: selector 0xE, mode "adp", frequency form. -/
  | decAdpHz (o : FrameOps)
  /-- R176: selector 0xE, mode "adp", percent form (hz any). -/
  | decAdpPct (hz : Bool) (o : FrameOps)
  /-- R177: selector 0xF, mode "milli-amps", plain form. -/
  | decMa (o : FrameOps)
  /-- R177: selector 0xF, mode "milli-amps", frequency form. -/
  | decMaHz (o : FrameOps)
  /-- R177: selector 0xF, mode "milli-amps", percent form (hz any). -/
  | decMaPct (hz : Bool) (o : FrameOps)
  deriving DecidableEq, Repr

end Sys2Proof
end

