-- ==== Sys2Proof/Decode.lean ====
section
/-! DEFINITION. The decoder, total on any command word and any byte sequence, the encoder, and the opcode
table (30_encoding.md). There are two formats (R90): the 10-bit command word and the 14-byte frame. -/

namespace Sys2Proof

/-- The two formats of R90. A frame is given as the bytes of a candidate, of any length. -/
inductive Code where
  | cmd (w : CmdWord)
  | frame (bytes : List Byte)
  deriving DecidableEq, Repr

/-- Why a candidate matches no row of the opcode table (30_encoding.md R99 (1)). -/
inductive DecodeError where
  /-- The candidate is not 14 bytes long. -/
  | frameLength (n : Nat)
  /-- The last two bytes are not 0x0D, 0x0A. -/
  | frameTerminator (b12 b13 : Byte)
  deriving DecidableEq, Repr

/-! ## Field extraction -/

/-- `(FB[i] & mask) != 0` (42_flag_extractor.md R140, 30_encoding.md R96). -/
def bitOf (b mask : Byte) : Bool :=
  (b &&& mask) != 0#8

/-- `FB[k][3:0]`: bits 7:4 are ignored (30_encoding.md R94, R95; 44_bcd_value_decoder.md R190). -/
def nibOf (b : Byte) : BitVec 4 :=
  b.extractLsb' 0 4

/-- `FB[0][2:0]`: bits 7:3 are ignored (30_encoding.md R93, 43_mode_range_lookup.md R180). -/
def ridxOf (b : Byte) : BitVec 3 :=
  b.extractLsb' 0 3

/-- The operand fields of a frame's bytes (30_encoding.md R92 to R96). -/
def frameOps (fb : FrameBytes) : FrameOps where
  ridx      := ridxOf fb[0]
  d1        := nibOf fb[1]
  d2        := nibOf fb[2]
  d3        := nibOf fb[3]
  d4        := nibOf fb[4]
  d5        := nibOf fb[5]
  minus     := bitOf fb[7] 0x04#8
  bat       := bitOf fb[7] 0x02#8
  overload  := bitOf fb[7] 0x01#8
  rel       := bitOf fb[8] 0x02#8
  underload := bitOf fb[9] 0x08#8
  max       := bitOf fb[9] 0x04#8
  min       := bitOf fb[9] 0x02#8
  dc        := bitOf fb[10] 0x08#8
  ac        := bitOf fb[10] 0x04#8
  auto      := bitOf fb[10] 0x02#8
  hold      := bitOf fb[11] 0x02#8

/-- All the fields of a frame's bytes (30_encoding.md R92 to R96). -/
def frameFields (fb : FrameBytes) : FrameFields where
  msel    := nibOf fb[6]
  percent := bitOf fb[7] 0x08#8
  hz      := bitOf fb[10] 0x01#8
  ops     := frameOps fb

/-- Bytes 12 and 13 are 0x0D, 0x0A, all 8 bits compared (30_encoding.md R97). -/
def terminated (fb : FrameBytes) : Bool :=
  fb[12] == 0x0D#8 && fb[13] == 0x0A#8

/-! ## The decoder -/

/-- The class of a mode: percent first, then hz, then the plain form (30_encoding.md R99 (3), R100). -/
def modeClass (plain hzForm : Instr) (pctForm : Bool → Instr) (percent hz : Bool) : Instr :=
  if percent then pctForm hz else if hz then hzForm else plain

/-- The frame class of a frame's fields (30_encoding.md R99, 43_mode_range_lookup.md R162 to R177). -/
def classOf (f : FrameFields) : Instr :=
  match f.msel with
  | 0x0#4 => modeClass (.decA10 f.ops) (.decA10Hz f.ops) (.decA10Pct · f.ops) f.percent f.hz
  | 0x1#4 => modeClass (.decDiode f.ops) (.decDiodeHz f.ops) (.decDiodePct · f.ops) f.percent f.hz
  | 0x2#4 => modeClass (.decFreq f.ops) (.decFreqHz f.ops) (.decFreqPct · f.ops) f.percent f.hz
  | 0x3#4 => modeClass (.decOhm f.ops) (.decOhmHz f.ops) (.decOhmPct · f.ops) f.percent f.hz
  | 0x4#4 => modeClass (.decTemp f.ops) (.decTempHz f.ops) (.decTempPct · f.ops) f.percent f.hz
  | 0x5#4 => modeClass (.decCont f.ops) (.decContHz f.ops) (.decContPct · f.ops) f.percent f.hz
  | 0x6#4 => modeClass (.decCap f.ops) (.decCapHz f.ops) (.decCapPct · f.ops) f.percent f.hz
  | 0x7#4 => .decRsvd7 f.percent f.hz f.ops
  | 0x8#4 => .decRsvd8 f.percent f.hz f.ops
  | 0x9#4 => modeClass (.decAman f.ops) (.decAmanHz f.ops) (.decAmanPct · f.ops) f.percent f.hz
  | 0xA#4 => .decRsvd10 f.percent f.hz f.ops
  | 0xB#4 => modeClass (.decV f.ops) (.decVHz f.ops) (.decVPct · f.ops) f.percent f.hz
  | 0xC#4 => .decRsvd12 f.percent f.hz f.ops
  | 0xD#4 => modeClass (.decUa f.ops) (.decUaHz f.ops) (.decUaPct · f.ops) f.percent f.hz
  | 0xE#4 => modeClass (.decAdp f.ops) (.decAdpHz f.ops) (.decAdpPct · f.ops) f.percent f.hz
  | _ => modeClass (.decMa f.ops) (.decMaHz f.ops) (.decMaPct · f.ops) f.percent f.hz

/-- The 14 bytes of a candidate, where it has 14. -/
def frameOfList (bytes : List Byte) : Option FrameBytes :=
  if h : bytes.length = 14 then some ⟨bytes.toArray, by simp [h]⟩ else none

/-- Decoding a frame: length, then terminator, then the class (30_encoding.md R99). -/
def decodeFrame (bytes : List Byte) : Except DecodeError Instr :=
  match frameOfList bytes with
  | none => .error (.frameLength bytes.length)
  | some fb =>
    if terminated fb then .ok (classOf (frameFields fb))
    else .error (.frameTerminator fb[12] fb[13])

/-- Decoding a command word by `CMD[9:8]`; the data of NOP, DEC and RST is ignored (30_encoding.md R91). -/
def decodeCmd (w : CmdWord) : Instr :=
  match w.extractLsb' 8 2 with
  | 0b00#2 => .nop
  | 0b01#2 => .push (w.extractLsb' 0 8)
  | 0b10#2 => .dec
  | _ => .rst

/-- The decoder, total on both formats. -/
def decode : Code → Except DecodeError Instr
  | .cmd w => .ok (decodeCmd w)
  | .frame bytes => decodeFrame bytes

/-! ## The encoder -/

/-- The fields a frame class stands for; none for a port command. -/
def Instr.fields : Instr → Option FrameFields
  | .nop => none
  | .push _ => none
  | .dec => none
  | .rst => none
  | .decA10 o => some ⟨0x0#4, false, false, o⟩
  | .decA10Hz o => some ⟨0x0#4, false, true, o⟩
  | .decA10Pct hz o => some ⟨0x0#4, true, hz, o⟩
  | .decDiode o => some ⟨0x1#4, false, false, o⟩
  | .decDiodeHz o => some ⟨0x1#4, false, true, o⟩
  | .decDiodePct hz o => some ⟨0x1#4, true, hz, o⟩
  | .decFreq o => some ⟨0x2#4, false, false, o⟩
  | .decFreqHz o => some ⟨0x2#4, false, true, o⟩
  | .decFreqPct hz o => some ⟨0x2#4, true, hz, o⟩
  | .decOhm o => some ⟨0x3#4, false, false, o⟩
  | .decOhmHz o => some ⟨0x3#4, false, true, o⟩
  | .decOhmPct hz o => some ⟨0x3#4, true, hz, o⟩
  | .decTemp o => some ⟨0x4#4, false, false, o⟩
  | .decTempHz o => some ⟨0x4#4, false, true, o⟩
  | .decTempPct hz o => some ⟨0x4#4, true, hz, o⟩
  | .decCont o => some ⟨0x5#4, false, false, o⟩
  | .decContHz o => some ⟨0x5#4, false, true, o⟩
  | .decContPct hz o => some ⟨0x5#4, true, hz, o⟩
  | .decCap o => some ⟨0x6#4, false, false, o⟩
  | .decCapHz o => some ⟨0x6#4, false, true, o⟩
  | .decCapPct hz o => some ⟨0x6#4, true, hz, o⟩
  | .decRsvd7 percent hz o => some ⟨0x7#4, percent, hz, o⟩
  | .decRsvd8 percent hz o => some ⟨0x8#4, percent, hz, o⟩
  | .decAman o => some ⟨0x9#4, false, false, o⟩
  | .decAmanHz o => some ⟨0x9#4, false, true, o⟩
  | .decAmanPct hz o => some ⟨0x9#4, true, hz, o⟩
  | .decRsvd10 percent hz o => some ⟨0xA#4, percent, hz, o⟩
  | .decV o => some ⟨0xB#4, false, false, o⟩
  | .decVHz o => some ⟨0xB#4, false, true, o⟩
  | .decVPct hz o => some ⟨0xB#4, true, hz, o⟩
  | .decRsvd12 percent hz o => some ⟨0xC#4, percent, hz, o⟩
  | .decUa o => some ⟨0xD#4, false, false, o⟩
  | .decUaHz o => some ⟨0xD#4, false, true, o⟩
  | .decUaPct hz o => some ⟨0xD#4, true, hz, o⟩
  | .decAdp o => some ⟨0xE#4, false, false, o⟩
  | .decAdpHz o => some ⟨0xE#4, false, true, o⟩
  | .decAdpPct hz o => some ⟨0xE#4, true, hz, o⟩
  | .decMa o => some ⟨0xF#4, false, false, o⟩
  | .decMaHz o => some ⟨0xF#4, false, true, o⟩
  | .decMaPct hz o => some ⟨0xF#4, true, hz, o⟩

/-- Four flag bits as a nibble, the first the most significant. -/
def flagNibble (b3 b2 b1 b0 : Bool) : BitVec 4 :=
  BitVec.ofBool b3 ++ BitVec.ofBool b2 ++ BitVec.ofBool b1 ++ BitVec.ofBool b0

/-- The range index as a nibble; the ignored bit 3 is 0. -/
def ridxNibble (r : BitVec 3) : BitVec 4 :=
  0#1 ++ r

/-- The 14 bytes of `frame r=… d=… m=… [flag …] hi=<hi>` (30_encoding.md R103): `hi` is the upper nibble of
bytes 0 to 11. -/
def assemble (hi : BitVec 4) (f : FrameFields) : FrameBytes :=
  #v[hi ++ ridxNibble f.ops.ridx,
     hi ++ f.ops.d1, hi ++ f.ops.d2, hi ++ f.ops.d3, hi ++ f.ops.d4, hi ++ f.ops.d5,
     hi ++ f.msel,
     hi ++ flagNibble f.percent f.ops.minus f.ops.bat f.ops.overload,
     hi ++ flagNibble false false f.ops.rel false,
     hi ++ flagNibble f.ops.underload f.ops.max f.ops.min false,
     hi ++ flagNibble f.ops.dc f.ops.ac f.ops.auto f.hz,
     hi ++ flagNibble false false f.ops.hold false,
     0x0D#8, 0x0A#8]

/-- The command word of a port command (30_encoding.md R91, R103); the ignored data is 0. A frame class has
none. -/
def Instr.cmdWord : Instr → CmdWord
  | .nop => 0x000#10
  | .push b => 0b01#2 ++ b
  | .dec => 0x200#10
  | .rst => 0x300#10
  | _ => 0x000#10

/-- The encoder: a port command as its command word, a frame class as its 14 bytes with the ignored bits 0
(30_encoding.md R91, R92, R103). -/
def encode (i : Instr) : Code :=
  match i.fields with
  | none => .cmd i.cmdWord
  | some f => .frame (assemble 0#4 f).toList

/-! ## The frame as one word, and the table's numbering of an instruction's bits -/

/-- `W[111-8*i : 104-8*i] = B[i]` (00_scope.md R8). -/
def frameWord (fb : FrameBytes) : FrameWord :=
  fb[0] ++ fb[1] ++ fb[2] ++ fb[3] ++ fb[4] ++ fb[5] ++ fb[6] ++ fb[7] ++ fb[8] ++ fb[9] ++ fb[10] ++
    fb[11] ++ fb[12] ++ fb[13]

/-- The bytes of a frame word (00_scope.md R8). -/
def wordBytes (w : FrameWord) : FrameBytes :=
  Vector.ofFn fun i => w.extractLsb' (104 - 8 * i.val) 8

/-- A row of a command word is up to 16 bits in whole bytes, a frame's row is 112. -/
def tableCode (nbits w : Nat) : Option Code :=
  if nbits ≤ 16 then
    if w < 2 ^ 10 then some (.cmd (BitVec.ofNat 10 w)) else none
  else if nbits ≤ 112 then
    if w < 2 ^ 112 then some (.frame (wordBytes (BitVec.ofNat 112 w)).toList) else none
  else none

/-- The instruction the decoder reads from the word `w` of a table row of `nbits` bits. -/
def decodeTableWord (nbits w : Nat) : Option Instr :=
  match tableCode nbits w with
  | none => none
  | some c => (decode c).toOption

/-! ## The opcode table -/

/-- A row of spec/opcode_table.json: a word `w` of the format is the row's when `w & mask = pattern`. -/
structure OpRow (n : Nat) where
  mnemonic : String
  pattern  : BitVec n
  mask     : BitVec n
  deriving DecidableEq, Repr

/-- `w & mask = pattern` (30_encoding.md R99). -/
def OpRow.fits {n : Nat} (r : OpRow n) (w : BitVec n) : Bool :=
  w &&& r.mask == r.pattern

/-- The CMD rows (30_encoding.md R91). -/
def cmdRows : List (OpRow 10) :=
  [⟨"NOP", 0x000#10, 0x300#10⟩, ⟨"PUSH", 0x100#10, 0x300#10⟩,
   ⟨"DEC", 0x200#10, 0x300#10⟩, ⟨"RST", 0x300#10, 0x300#10⟩]

/-- The FRAME rows of a mode's three classes (30_encoding.md R99): the mask covers the terminator, the
selector, percent and, where percent is 0, hz. `sel` is the selector at W[59:56]. -/
def modeRows (plain hzForm pctForm : String) (sel : FrameWord) : List (OpRow 112) :=
  [⟨plain, sel ||| 0x0D0A#112, 0xF0800000100FFFF#112⟩,
   ⟨hzForm, sel ||| 0x1000D0A#112, 0xF0800000100FFFF#112⟩,
   ⟨pctForm, sel ||| 0x8000000000D0A#112, 0xF0800000000FFFF#112⟩]

/-- The FRAME row of an undefined selector (30_encoding.md R99 (2)): percent and hz are any. -/
def rsvdRow (mnemonic : String) (sel : FrameWord) : List (OpRow 112) :=
  [⟨mnemonic, sel ||| 0x0D0A#112, 0xF0000000000FFFF#112⟩]

/-- The FRAME rows, in the table's order. -/
def frameRows : List (OpRow 112) :=
  modeRows "DEC.A10" "DEC.A10.HZ" "DEC.A10.PCT" 0x000000000000000#112 ++
  modeRows "DEC.DIODE" "DEC.DIODE.HZ" "DEC.DIODE.PCT" 0x100000000000000#112 ++
  modeRows "DEC.FREQ" "DEC.FREQ.HZ" "DEC.FREQ.PCT" 0x200000000000000#112 ++
  modeRows "DEC.OHM" "DEC.OHM.HZ" "DEC.OHM.PCT" 0x300000000000000#112 ++
  modeRows "DEC.TEMP" "DEC.TEMP.HZ" "DEC.TEMP.PCT" 0x400000000000000#112 ++
  modeRows "DEC.CONT" "DEC.CONT.HZ" "DEC.CONT.PCT" 0x500000000000000#112 ++
  modeRows "DEC.CAP" "DEC.CAP.HZ" "DEC.CAP.PCT" 0x600000000000000#112 ++
  rsvdRow "DEC.RSVD7" 0x700000000000000#112 ++
  rsvdRow "DEC.RSVD8" 0x800000000000000#112 ++
  modeRows "DEC.AMAN" "DEC.AMAN.HZ" "DEC.AMAN.PCT" 0x900000000000000#112 ++
  rsvdRow "DEC.RSVD10" 0xA00000000000000#112 ++
  modeRows "DEC.V" "DEC.V.HZ" "DEC.V.PCT" 0xB00000000000000#112 ++
  rsvdRow "DEC.RSVD12" 0xC00000000000000#112 ++
  modeRows "DEC.UA" "DEC.UA.HZ" "DEC.UA.PCT" 0xD00000000000000#112 ++
  modeRows "DEC.ADP" "DEC.ADP.HZ" "DEC.ADP.PCT" 0xE00000000000000#112 ++
  modeRows "DEC.MA" "DEC.MA.HZ" "DEC.MA.PCT" 0xF00000000000000#112

/-- The mnemonic of an instruction's row, as spec/opcode_table.json spells it. -/
def Instr.mnemonic : Instr → String
  | .nop => "NOP"
  | .push _ => "PUSH"
  | .dec => "DEC"
  | .rst => "RST"
  | .decA10 _ => "DEC.A10"
  | .decA10Hz _ => "DEC.A10.HZ"
  | .decA10Pct _ _ => "DEC.A10.PCT"
  | .decDiode _ => "DEC.DIODE"
  | .decDiodeHz _ => "DEC.DIODE.HZ"
  | .decDiodePct _ _ => "DEC.DIODE.PCT"
  | .decFreq _ => "DEC.FREQ"
  | .decFreqHz _ => "DEC.FREQ.HZ"
  | .decFreqPct _ _ => "DEC.FREQ.PCT"
  | .decOhm _ => "DEC.OHM"
  | .decOhmHz _ => "DEC.OHM.HZ"
  | .decOhmPct _ _ => "DEC.OHM.PCT"
  | .decTemp _ => "DEC.TEMP"
  | .decTempHz _ => "DEC.TEMP.HZ"
  | .decTempPct _ _ => "DEC.TEMP.PCT"
  | .decCont _ => "DEC.CONT"
  | .decContHz _ => "DEC.CONT.HZ"
  | .decContPct _ _ => "DEC.CONT.PCT"
  | .decCap _ => "DEC.CAP"
  | .decCapHz _ => "DEC.CAP.HZ"
  | .decCapPct _ _ => "DEC.CAP.PCT"
  | .decRsvd7 _ _ _ => "DEC.RSVD7"
  | .decRsvd8 _ _ _ => "DEC.RSVD8"
  | .decAman _ => "DEC.AMAN"
  | .decAmanHz _ => "DEC.AMAN.HZ"
  | .decAmanPct _ _ => "DEC.AMAN.PCT"
  | .decRsvd10 _ _ _ => "DEC.RSVD10"
  | .decV _ => "DEC.V"
  | .decVHz _ => "DEC.V.HZ"
  | .decVPct _ _ => "DEC.V.PCT"
  | .decRsvd12 _ _ _ => "DEC.RSVD12"
  | .decUa _ => "DEC.UA"
  | .decUaHz _ => "DEC.UA.HZ"
  | .decUaPct _ _ => "DEC.UA.PCT"
  | .decAdp _ => "DEC.ADP"
  | .decAdpHz _ => "DEC.ADP.HZ"
  | .decAdpPct _ _ => "DEC.ADP.PCT"
  | .decMa _ => "DEC.MA"
  | .decMaHz _ => "DEC.MA.HZ"
  | .decMaPct _ _ => "DEC.MA.PCT"

/-! ## The pseudo-instructions of the assembler -/

/-- `sendraw b0 b1 …` (30_encoding.md R104): the pushes, then DEC. -/
def sendraw (bytes : List Byte) : List Instr :=
  bytes.map .push ++ [.dec]

/-- `send <frame>` (30_encoding.md R104). -/
def send (hi : BitVec 4) (f : FrameFields) : List Instr :=
  sendraw (assemble hi f).toList

end Sys2Proof
end

