-- ==== Sys2Proof/Config.lean ====
section
/-! DEFINITION. The configuration of one decoder core: the ROM image and LOWBAT_MASK
(00_scope.md R6, 10_state.md R34). It is fixed for a machine; no command writes it. -/

namespace Sys2Proof

/-- A defined MODEROM entry: the id of the mode's own RangeTable, 0 meaning none (20_memory.md R60). -/
structure ModeEntry where
  tid : BitVec 4
  deriving DecidableEq, Repr

/-- A present RangeTable slot: template code, unit code and signed scale exponent (20_memory.md R60). -/
structure RangeEntry where
  tpl  : BitVec 3
  unit : BitVec 5
  sexp : BitVec 4
  deriving DecidableEq, Repr

/-- A defined NORMROM entry: the signed exponent of the multiplier and the canonical unit code
(20_memory.md R60). -/
structure NormEntry where
  exp   : BitVec 5
  canon : BitVec 5
  deriving DecidableEq, Repr

/-- A ROM image (20_memory.md R60). The defined and present bits of the spec are `some` and `none`
(46_measurement_assembler.md R224: "an array of optional entries"). -/
structure Rom where
  /-- MODEROM, by mode selector. -/
  modes      : Vector (Option ModeEntry) 16
  /-- RANGEROM: 16 tables of 8 slots. -/
  ranges     : Vector (Vector (Option RangeEntry) 8) 16
  /-- NORMROM, by unit code. What stands at the reserved codes 16 to 31 is read by nothing (log entry 14). -/
  norms      : Vector (Option NormEntry) 32
  /-- PCT_TID, the dedicated percent RangeTable. -/
  pctTid     : BitVec 4
  /-- HZ_TID, the dedicated frequency RangeTable. -/
  hzTid      : BitVec 4
  /-- TPLROM, the template texts. -/
  templates  : Vector String 8
  /-- LABELROM, the mode names by mode selector. -/
  modeNames  : Vector String 16
  /-- LABELROM, the unit labels by unit code. -/
  unitLabels : Vector String 32
  deriving DecidableEq, Repr

/-- LOWBAT_MASK: byte 7 bit 1 (0x02, the default) or the percent bit (0x08); "no other value of the
parameter is admitted" (42_flag_extractor.md R143). -/
inductive LowbatMask where
  | bit1
  | bit3
  deriving DecidableEq, Repr

/-- The two parameters of the step function (00_scope.md R6). -/
structure Config where
  rom        : Rom
  lowbatMask : LowbatMask
  deriving DecidableEq, Repr

end Sys2Proof
end

