-- ==== Sys2Proof/Machine/Tables.lean ====
section
/-! DEFINITION. Reading the tables of a ROM image: MemRead of 00_scope.md R9, one whole entry at a time, with no
side effect (20_memory.md R52, R55). Every address that can be formed is inside its table. -/

namespace Sys2Proof

/-- `MemRead(MODEROM, msel)`; none where the entry is undefined (20_memory.md R52). -/
def Rom.mode (rom : Rom) (msel : BitVec 4) : Option ModeEntry :=
  rom.modes[msel.toNat]'msel.isLt

/-- `MemRead(RANGEROM, {tid, ridx})`: slot `ridx` of table `tid`; none where the slot is absent
(20_memory.md R52). -/
def Rom.slot (rom : Rom) (tid : BitVec 4) (ridx : BitVec 3) : Option RangeEntry :=
  (rom.ranges[tid.toNat]'tid.isLt)[ridx.toNat]'ridx.isLt

/-- `MemRead(NORMROM, u)`; none where the unit code has no entry (20_memory.md R52). The unit codes 16 to 31 are reserved
and have none, whatever the image (30_encoding.md R101 (h), 93_implementation_defined.md U11; log entry 14). -/
def Rom.norm (rom : Rom) (unit : BitVec 5) : Option NormEntry :=
  if unit.toNat < 16 then rom.norms[unit.toNat]'unit.isLt else none

/-- `MemRead(TPLROM, tpl)` (20_memory.md R50, R74). -/
def Rom.templateText (rom : Rom) (tpl : BitVec 3) : String :=
  rom.templates[tpl.toNat]'tpl.isLt

/-- `MemRead(LABELROM, msel)`, the mode names (20_memory.md R50, R74). -/
def Rom.modeName (rom : Rom) (msel : BitVec 4) : String :=
  rom.modeNames[msel.toNat]'msel.isLt

/-- `MemRead(LABELROM, unit)`, the unit labels (20_memory.md R50, R73). -/
def Rom.unitLabel (rom : Rom) (unit : BitVec 5) : String :=
  rom.unitLabels[unit.toNat]'unit.isLt

/-- The one-bit mask of LOWBAT_MASK (00_scope.md R6, 42_flag_extractor.md R143). -/
def LowbatMask.mask : LowbatMask → BitVec 8
  | .bit1 => 0x02#8
  | .bit3 => 0x08#8

end Sys2Proof
end

