-- ==== Sys2Proof/Machine/RomDefault.lean ====
section
/-! DEFINITION. ROM_DEFAULT, the default image (20_memory.md R62 to R74), and the default configuration
(00_scope.md R6). The source pins T_V slot 0, the unit and scale of T_UA slot 1, selectors 0xB and 0xD and the
normalisation entries of W4; every other entry is the spec's "[from general knowledge, not in source]"
(PRESUMED, unsafe: log entry 8). No general statement rests on one. -/

namespace Sys2Proof.RomDefault

/-- The template codes of R74. -/
def tplText : Vector String 8 :=
  #v["2.2000", "22.000", "220.00", "2200.0", "22000", "1000.0", "10.000", "100.0"]

/-- A present slot: template code, unit code, scale exponent. -/
def present (tpl : BitVec 3) (unit : BitVec 5) (sexp : Int) : Option RangeEntry :=
  some ⟨tpl, unit, BitVec.ofInt 4 sexp⟩

/-- A defined NORMROM entry. -/
def scaled (exp : Int) (canon : BitVec 5) : Option NormEntry :=
  some ⟨BitVec.ofInt 5 exp, canon⟩

/-- MODEROM (R62). -/
def modes : Vector (Option ModeEntry) 16 :=
  #v[some ⟨4⟩, some ⟨10⟩, some ⟨8⟩, some ⟨6⟩, some ⟨0⟩, some ⟨6⟩, some ⟨7⟩, none,
     none, some ⟨5⟩, none, some ⟨1⟩, none, some ⟨2⟩, some ⟨0⟩, some ⟨3⟩]

/-- A table with every slot absent: table 0 (R61 W1) and the unused ids 11 to 15 (R62). -/
def emptyTable : Vector (Option RangeEntry) 8 :=
  #v[none, none, none, none, none, none, none, none]

/-- T_V, tid 1 (R63). -/
def tableV : Vector (Option RangeEntry) 8 :=
  #v[present 0 0 (-4), present 1 0 (-3), present 2 0 (-2), present 5 0 (-1), present 2 1 (-2),
     none, none, none]

/-- T_UA, tid 2 (R64). -/
def tableUa : Vector (Option RangeEntry) 8 :=
  #v[present 2 4 (-2), present 3 4 (-1), none, none, none, none, none, none]

/-- T_MA, tid 3 (R65). -/
def tableMa : Vector (Option RangeEntry) 8 :=
  #v[present 1 3 (-3), present 2 3 (-2), none, none, none, none, none, none]

/-- T_A10, tid 4 (R66). -/
def tableA10 : Vector (Option RangeEntry) 8 :=
  #v[present 6 2 (-3), none, none, none, none, none, none, none]

/-- T_AMAN, tid 5 (R67). -/
def tableAman : Vector (Option RangeEntry) 8 :=
  #v[present 0 2 (-4), present 1 2 (-3), present 2 2 (-2), present 3 2 (-1), present 4 2 0,
     none, none, none]

/-- T_RES, tid 6 (R68). -/
def tableRes : Vector (Option RangeEntry) 8 :=
  #v[present 2 5 (-2), present 0 6 (-4), present 1 6 (-3), present 2 6 (-2),
     present 0 7 (-4), present 1 7 (-3), present 2 7 (-2), none]

/-- T_CAP, tid 7 (R69). -/
def tableCap : Vector (Option RangeEntry) 8 :=
  #v[present 1 9 (-3), present 2 9 (-2), present 0 10 (-4), present 1 10 (-3), present 2 10 (-2),
     present 0 11 (-4), present 1 11 (-3), present 2 11 (-2)]

/-- T_FREQ, tid 8 (R70). -/
def tableFreq : Vector (Option RangeEntry) 8 :=
  #v[present 2 12 (-2), present 3 12 (-1), none, present 1 13 (-3), present 2 13 (-2),
     present 0 14 (-4), present 1 14 (-3), present 2 14 (-2)]

/-- T_PCT, tid 9 (R71): eight equal slots. -/
def tablePct : Vector (Option RangeEntry) 8 :=
  Vector.replicate 8 (present 7 15 (-1))

/-- T_DIODE, tid 10 (R72). -/
def tableDiode : Vector (Option RangeEntry) 8 :=
  #v[present 0 0 (-4), none, none, none, none, none, none, none]

/-- NORMROM by the unit codes of R73; codes 16 to 31 are reserved. -/
def norms : Vector (Option NormEntry) 32 :=
  #v[scaled 0 0, scaled (-3) 0, scaled 0 2, scaled (-3) 2, scaled (-6) 2, scaled 0 5, scaled 3 5, scaled 6 5,
     scaled 0 8, scaled (-9) 8, scaled (-6) 8, scaled (-3) 8, scaled 0 12, scaled 3 12, scaled 6 12, scaled 0 15] ++
  (Vector.replicate 16 none : Vector (Option NormEntry) 16)

/-- The mode names of R62; the undefined selectors have none. -/
def modeNames : Vector String 16 :=
  #v["amps", "diode", "frequency", "resistance", "temperature", "continuity", "capacitance", "",
     "", "amps-manual", "", "voltage", "", "micro-amps", "adp", "milli-amps"]

/-- The unit labels of R73; the reserved codes have none. -/
def unitLabels : Vector String 32 :=
  #v["V", "mV", "A", "mA", "uA", "Ohm", "kOhm", "MOhm",
     "F", "nF", "uF", "mF", "Hz", "kHz", "MHz", "%"] ++
  (Vector.replicate 16 "" : Vector String 16)

end Sys2Proof.RomDefault

namespace Sys2Proof

/-- ROM_DEFAULT (20_memory.md R62 to R74), PCT_TID = 9, HZ_TID = 8. -/
def romDefault : Rom where
  modes      := RomDefault.modes
  ranges     := #v[RomDefault.emptyTable, RomDefault.tableV, RomDefault.tableUa, RomDefault.tableMa,
                   RomDefault.tableA10, RomDefault.tableAman, RomDefault.tableRes, RomDefault.tableCap,
                   RomDefault.tableFreq, RomDefault.tablePct, RomDefault.tableDiode,
                   RomDefault.emptyTable, RomDefault.emptyTable, RomDefault.emptyTable,
                   RomDefault.emptyTable, RomDefault.emptyTable]
  norms      := RomDefault.norms
  pctTid     := 9#4
  hzTid      := 8#4
  templates  := RomDefault.tplText
  modeNames  := RomDefault.modeNames
  unitLabels := RomDefault.unitLabels

/-- The default of both parameters (00_scope.md R6). -/
def configDefault : Config where
  rom        := romDefault
  lowbatMask := .bit1

end Sys2Proof
end

