-- ==== Sys2Proof/Machine/State.lean ====
section
/-! DEFINITION. The state of one decoder core (10_state.md R20), the reasons a step can stop, the records that
DEC hands from stage to stage, and the state after reset (10_state.md R35). -/

namespace Sys2Proof.Machine

/-- Why a step faults. No command faults (40_port_operations.md R120: "no command faults, hangs, is refused or
leaves the machine stuck"), so there is no reason: nothing raises one, and that is safe. -/
inductive Fault where
  deriving DecidableEq, Repr

/-- Why a step is refused. -/
inductive Refusal where
  /-- An instruction that has no meaning yet; raised only by exec's arms. Safe: the model stops where the
  hardware goes on. No arm raises it now. -/
  | notModelled (mnemonic : String)
  deriving DecidableEq, Repr

/-- One instance's state (10_state.md R20), beside the two things the step function reads that are not state
in the spec: the configuration (R34; log entry 1) and the commands presented at the port (log entry 2).

STATUS and EINFO are words with named accessors in Machine/Ops.lean; DEXP and NEXP are two's complement. -/
structure State where
  /-- FB[0] to FB[13], the general registers (R21). -/
  fb     : Vector (BitVec 8) 14
  /-- LEN, bytes pushed since the last DEC or RST, saturating at 15 (R22). -/
  len    : BitVec 4
  /-- STATUS (R25): CODE at 2:0, VALID at 3, FAIL at 4, MEAN at 5. -/
  status : BitVec 6
  /-- EINFO (R26): E_SEL at 3:0, E_RIDX at 6:4, E_TSEL at 8:7. -/
  einfo  : BitVec 9
  /-- MSEL (R27). -/
  msel   : BitVec 4
  /-- TPL (R28). -/
  tpl    : BitVec 3
  /-- NEG (R29). -/
  neg    : BitVec 1
  /-- MAG (R29). -/
  mag    : BitVec 18
  /-- DEXP, signed (R29). -/
  dexp   : BitVec 4
  /-- DUNIT (R29). -/
  dunit  : BitVec 5
  /-- NEXP, signed (R30). -/
  nexp   : BitVec 6
  /-- NUNIT (R30). -/
  nunit  : BitVec 5
  /-- FLAGS (R31). -/
  flags  : BitVec 13
  /-- The model's own: ROM and LOWBAT_MASK, which no command writes (R34). -/
  config : Config
  /-- The model's own: the command words presented and not yet run, oldest first. -/
  port   : List (BitVec 10)
  deriving DecidableEq, Repr

/-- The thirteen flags of a validated frame, in the order of 10_state.md R31. -/
structure Flags where
  percent   : Bool
  minus     : Bool
  lowbat    : Bool
  overload  : Bool
  underload : Bool
  rel       : Bool
  max       : Bool
  min       : Bool
  dc        : Bool
  ac        : Bool
  auto      : Bool
  hz        : Bool
  hold      : Bool
  deriving DecidableEq, Repr

/-- Which way the table selection went (43_mode_range_lookup.md R182); code 3 never occurs. -/
inductive TableSel where
  | own
  | percent
  | frequency
  deriving DecidableEq, Repr

/-- The four error conditions and what each records (60_exceptions.md R232 to R235). -/
inductive DecError where
  /-- FramingError, stage S1. -/
  | framing (n : BitVec 4)
  /-- UnsupportedModeError, stage S3. -/
  | unsupportedMode (msel : BitVec 4)
  /-- UnsupportedRangeError, stage S6. -/
  | unsupportedRange (msel : BitVec 4) (ridx : BitVec 3) (tsel : TableSel)
  /-- InternalInvariantError, stage S10. -/
  | internalInvariant (msel : BitVec 4) (ridx : BitVec 3) (tsel : TableSel)
  deriving DecidableEq, Repr

/-- The record stage S11 writes (46_measurement_assembler.md R221). -/
structure Measurement where
  msel  : BitVec 4
  tpl   : BitVec 3
  neg   : Bool
  mag   : BitVec 18
  dexp  : BitVec 4
  dunit : BitVec 5
  nexp  : BitVec 6
  nunit : BitVec 5
  flags : Flags
  deriving DecidableEq, Repr

/-- The state after RST and at power-up, which is the same event (10_state.md R35, 70_reset_and_hazards.md R260).
The configuration is the default of 00_scope.md R6 and no command is presented (log entries 1 and 2). -/
def State.reset : State where
  fb     := Vector.replicate 14 0x00#8
  len    := 0#4
  status := 7#6
  einfo  := 0#9
  msel   := 0#4
  tpl    := 0#3
  neg    := 0#1
  mag    := 0#18
  dexp   := 0#4
  dunit  := 0#5
  nexp   := 0#6
  nunit  := 0#5
  flags  := 0#13
  config := configDefault
  port   := []

end Sys2Proof.Machine
end

