-- ==== Sys2Proof/Machine/Ops.lean ====
section
/-! DEFINITION. The named operations over the registers: reading and writing the frame buffer, LEN and the result
registers, writing a measurement, taking an error condition, reset, and the host's reads. -/

namespace Sys2Proof.Machine

/-! ## Fields of STATUS and EINFO -/

/-- STATUS.CODE, STATUS[2:0] (10_state.md R25). -/
def State.code (s : State) : BitVec 3 :=
  s.status.extractLsb' 0 3

/-- STATUS.VALID, STATUS[3] (10_state.md R25). -/
def State.valid (s : State) : Bool :=
  s.status.getLsbD 3

/-- STATUS.FAIL, STATUS[4] (10_state.md R25). -/
def State.fail (s : State) : Bool :=
  s.status.getLsbD 4

/-- STATUS.MEAN, STATUS[5] (10_state.md R25). -/
def State.mean (s : State) : Bool :=
  s.status.getLsbD 5

/-- EINFO.E_SEL, EINFO[3:0] (10_state.md R26). -/
def State.eSel (s : State) : BitVec 4 :=
  s.einfo.extractLsb' 0 4

/-- EINFO.E_RIDX, EINFO[6:4] (10_state.md R26). -/
def State.eRidx (s : State) : BitVec 3 :=
  s.einfo.extractLsb' 4 3

/-- EINFO.E_TSEL, EINFO[8:7] (10_state.md R26). -/
def State.eTsel (s : State) : BitVec 2 :=
  s.einfo.extractLsb' 7 2

/-- The STATUS word of its fields (10_state.md R25). -/
def statusWord (code : BitVec 3) (valid fail mean : Bool) : BitVec 6 :=
  BitVec.ofBool mean ++ BitVec.ofBool fail ++ BitVec.ofBool valid ++ code

/-- The EINFO word of its fields (10_state.md R26). -/
def einfoWord (tsel : BitVec 2) (ridx : BitVec 3) (sel : BitVec 4) : BitVec 9 :=
  tsel ++ ridx ++ sel

/-! ## Updates -/

/-- `FB[i] <- v`, `MemWrite(FB, i, 1, v)` (00_scope.md R9). The index is one of 0 to 13: no other exists
(20_memory.md R51). -/
def State.writeFb (s : State) (i : Fin 14) (v : BitVec 8) : State :=
  { s with fb := s.fb.set i v }

/-- `LEN <- n`. -/
def State.setLen (s : State) (n : BitVec 4) : State :=
  { s with len := n }

/-- The command at the port has been taken. -/
def State.popPort (s : State) : State :=
  { s with port := s.port.tail }

/-- The result registers MSEL to FLAGS all 0 (60_exceptions.md R237). -/
def State.clearResults (s : State) : State :=
  { s with
    msel := 0#4, tpl := 0#3, neg := 0#1, mag := 0#18, dexp := 0#4, dunit := 0#5,
    nexp := 0#6, nunit := 0#5, flags := 0#13 }

/-! ## Taking an error condition -/

/-- The code of a table selection (43_mode_range_lookup.md R182). -/
def TableSel.code : TableSel → BitVec 2
  | .own => 0#2
  | .percent => 1#2
  | .frequency => 2#2

/-- The STATUS.CODE of an error condition (60_exceptions.md R231). -/
def DecError.code : DecError → BitVec 3
  | .framing _ => 1#3
  | .unsupportedMode _ => 2#3
  | .unsupportedRange _ _ _ => 3#3
  | .internalInvariant _ _ _ => 4#3

/-- The STATUS.FAIL of an error condition: FramingError is no failure (60_exceptions.md R231). -/
def DecError.isFail : DecError → Bool
  | .framing _ => false
  | .unsupportedMode _ => true
  | .unsupportedRange _ _ _ => true
  | .internalInvariant _ _ _ => true

/-- What an error condition records in EINFO (60_exceptions.md R236). -/
def DecError.info : DecError → BitVec 9
  | .framing n => einfoWord 0#2 0#3 n
  | .unsupportedMode msel => einfoWord 0#2 0#3 msel
  | .unsupportedRange msel ridx tsel => einfoWord tsel.code ridx msel
  | .internalInvariant msel ridx tsel => einfoWord tsel.code ridx msel

/-- `raise E(info)` (00_scope.md R9): STATUS by R231, EINFO by R236, the result registers cleared by R237, in one
step. Nothing is saved, no mode changes and control goes nowhere (60_exceptions.md R240). There is no return from it
"because nothing was entered" (60_exceptions.md R241): the next command runs as always. -/
def State.raise (s : State) (e : DecError) : State :=
  { s.clearResults with
    status := statusWord e.code false e.isFail false
    einfo  := e.info }

/-! ## Reset and the host's reads -/

/-- RST: every piece of state takes its reset value; the tables and LOWBAT_MASK keep theirs
(40_port_operations.md R124, 70_reset_and_hazards.md R261), and the commands behind it are still presented. -/
def State.rst (s : State) : State :=
  { State.reset with config := s.config, port := s.port }

/-- The registers a host can read, in the order of their numbers 0 to 10 (10_state.md R24). -/
inductive HostReg where
  | status
  | einfo
  | msel
  | tpl
  | neg
  | mag
  | dexp
  | dunit
  | nexp
  | nunit
  | flags
  deriving DecidableEq, Repr

/-- The number of a register (10_state.md R24). -/
def HostReg.number : HostReg → Nat
  | .status => 0
  | .einfo => 1
  | .msel => 2
  | .tpl => 3
  | .neg => 4
  | .mag => 5
  | .dexp => 6
  | .dunit => 7
  | .nexp => 8
  | .nunit => 9
  | .flags => 10

/-- The width of a register (10_state.md R24). -/
abbrev HostReg.width : HostReg → Nat
  | .status => 6
  | .einfo => 9
  | .msel => 4
  | .tpl => 3
  | .neg => 1
  | .mag => 18
  | .dexp => 4
  | .dunit => 5
  | .nexp => 6
  | .nunit => 5
  | .flags => 13

/-- A host read: the current value, and nothing changes (40_port_operations.md R125). FB, LEN and the tables have no
number, so a host cannot read them. -/
def State.hostRead (s : State) : (r : HostReg) → BitVec r.width
  | .status => s.status
  | .einfo => s.einfo
  | .msel => s.msel
  | .tpl => s.tpl
  | .neg => s.neg
  | .mag => s.mag
  | .dexp => s.dexp
  | .dunit => s.dunit
  | .nexp => s.nexp
  | .nunit => s.nunit
  | .flags => s.flags

end Sys2Proof.Machine
end

