-- ==== Sys2Proof/Machine/Operands.lean ====
section
/-! DEFINITION. The operands of DEC: the fields of the frame buffer (10_state.md R21), the digits and their
composition (44_bcd_value_decoder.md R190 to R197). -/

namespace Sys2Proof.Machine

/-- The fields of the frame in the buffer (30_encoding.md R92). -/
def State.frame (s : State) : FrameFields :=
  frameFields s.fb

/-- The digits in their fixed order, most significant first (44_bcd_value_decoder.md R191 to R195). -/
def digits (o : FrameOps) : List (BitVec 4) :=
  [o.d1, o.d2, o.d3, o.d4, o.d5]

/-- One step of the accumulator: `acc <- acc * 10 + zext_18(digit)` (44_bcd_value_decoder.md R196). A digit of 10 to
15 is taken as it is. -/
def accStep (acc : BitVec 18) (digit : BitVec 4) : BitVec 18 :=
  acc * 10#18 + digit.zeroExtend 18

/-- ACC, stage S7: the decimal composition of the five digits (44_bcd_value_decoder.md R196). -/
def accumulate (o : FrameOps) : BitVec 18 :=
  (digits o).foldl accStep 0#18

end Sys2Proof.Machine
end

