-- ==== Sys2Proof/Machine/Flags.lean ====
section
/-! DEFINITION. Stage S2, the flag extractor (42_flag_extractor.md R140 to R156), and the FLAGS word
(10_state.md R31). -/

namespace Sys2Proof.Machine

/-- lowbat = BIT(7, LOWBAT_MASK): byte 7 bit 1 under 0x02, and the percent bit under 0x08 (42_flag_extractor.md
R143). -/
def lowbatFlag (mask : LowbatMask) (f : FrameFields) : Bool :=
  match mask with
  | .bit1 => f.ops.bat
  | .bit3 => f.percent

/-- FLAGS, stage S2: all thirteen flags, each a copy of its frame bit (42_flag_extractor.md R141 to R154). -/
def extractFlags (mask : LowbatMask) (f : FrameFields) : Flags where
  percent   := f.percent
  minus     := f.ops.minus
  lowbat    := lowbatFlag mask f
  overload  := f.ops.overload
  underload := f.ops.underload
  rel       := f.ops.rel
  max       := f.ops.max
  min       := f.ops.min
  dc        := f.ops.dc
  ac        := f.ops.ac
  auto      := f.ops.auto
  hz        := f.hz
  hold      := f.ops.hold

/-- The FLAGS word, percent at bit 0 to hold at bit 12 (10_state.md R31). -/
def Flags.word (f : Flags) : BitVec 13 :=
  BitVec.ofBool f.hold ++ BitVec.ofBool f.hz ++ BitVec.ofBool f.auto ++ BitVec.ofBool f.ac ++
    BitVec.ofBool f.dc ++ BitVec.ofBool f.min ++ BitVec.ofBool f.max ++ BitVec.ofBool f.rel ++
    BitVec.ofBool f.underload ++ BitVec.ofBool f.overload ++ BitVec.ofBool f.lowbat ++
    BitVec.ofBool f.minus ++ BitVec.ofBool f.percent

/-- MEAN of a valid result: not overload and not underload (42_flag_extractor.md R156). -/
def Flags.mean (f : Flags) : Bool :=
  !f.overload && !f.underload

end Sys2Proof.Machine
end

