-- ==== Sys2Proof/Machine/Pipeline.lean ====
section
/-! DEFINITION. The stages of DEC and the whole pipeline, Decode(n, FB) (46_measurement_assembler.md R220). One
definition per stage; the stages run in the order S1 to S11, and the first error condition reached leaves the pipeline
(R222, 60_exceptions.md R238). -/

namespace Sys2Proof.Machine

/-- S1, VALIDATE: exactly 14 bytes that end in 0x0D 0x0A; bytes 12 and 13 are consulted only when the length is 14
(41_frame_validator.md R130). -/
def validate (n : BitVec 4) (fb : FrameBytes) : Except DecError Unit :=
  if n == 14#4 && terminated fb then .ok () else .error (.framing n)

/-- S3, MODE: the MODEROM entry of the selector (43_mode_range_lookup.md R161). -/
def lookupMode (rom : Rom) (msel : BitVec 4) : Except DecError ModeEntry :=
  match rom.mode msel with
  | some me => .ok me
  | none => .error (.unsupportedMode msel)

/-- S5, TSEL: percent first, then hz, then the mode's own table (43_mode_range_lookup.md R182). -/
def selectTable (rom : Rom) (percent hz : Bool) (ownTid : BitVec 4) : BitVec 4 × TableSel :=
  if percent then (rom.pctTid, .percent)
  else if hz then (rom.hzTid, .frequency)
  else (ownTid, .own)

/-- S6, RANGE: the slot of the selected table; an absent slot is a decode failure, never a default
(43_mode_range_lookup.md R183). -/
def lookupRange (rom : Rom) (tid : BitVec 4) (tsel : TableSel) (msel : BitVec 4) (ridx : BitVec 3) :
    Except DecError RangeEntry :=
  match rom.slot tid ridx with
  | some re => .ok re
  | none => .error (.unsupportedRange msel ridx tsel)

/-- S8, SCALE: the scale factor is 10^sexp, so the exact product attaches the exponent and no digit changes
(44_bcd_value_decoder.md R198). -/
def scale (re : RangeEntry) : BitVec 4 :=
  re.sexp

/-- S9, SIGN: the minus flag, kept even when the magnitude is 0 (44_bcd_value_decoder.md R199, R200). -/
def sign (flags : Flags) : Bool :=
  flags.minus

/-- S10, NORM: the exponents add, sign and digits are unchanged (45_unit_normalizer.md R210). Answers the normalised
exponent and unit. -/
def normalise (rom : Rom) (tsel : TableSel) (msel : BitVec 4) (ridx : BitVec 3) (dexp : BitVec 4)
    (unit : BitVec 5) : Except DecError (BitVec 6 × BitVec 5) :=
  match rom.norm unit with
  | some ne => .ok (dexp.signExtend 6 + ne.exp.signExtend 6, ne.canon)
  | none => .error (.internalInvariant msel ridx tsel)

/-- S11, ASSEMBLE: the record of an OK outcome (46_measurement_assembler.md R221). The mode is the frame's own even where
the unit came from an override table. -/
def assembleResult (flags : Flags) (f : FrameFields) (re : RangeEntry) (norm : BitVec 6 × BitVec 5) :
    Measurement where
  msel  := f.msel
  tpl   := re.tpl
  neg   := sign flags
  mag   := accumulate f.ops
  dexp  := scale re
  dunit := re.unit
  nexp  := norm.1
  nunit := norm.2
  flags := flags

/-- Stages S2 to S11 on the fields of a validated frame (46_measurement_assembler.md R220). -/
def decodeFields (config : Config) (f : FrameFields) : Except DecError Measurement :=
  let flags := extractFlags config.lowbatMask f
  match lookupMode config.rom f.msel with
  | .error e => .error e
  | .ok me =>
    let t := selectTable config.rom f.percent f.hz me.tid
    match lookupRange config.rom t.1 t.2 f.msel f.ops.ridx with
    | .error e => .error e
    | .ok re =>
      match normalise config.rom t.2 f.msel f.ops.ridx (scale re) re.unit with
      | .error e => .error e
      | .ok norm => .ok (assembleResult flags f re norm)

/-- Decode(n, FB) (46_measurement_assembler.md R220): a function of its arguments alone (R223). -/
def decodeBuffer (config : Config) (n : BitVec 4) (fb : FrameBytes) : Except DecError Measurement :=
  match validate n fb with
  | .error e => .error e
  | .ok () => decodeFields config (frameFields fb)

/-- The registers an OK outcome writes (46_measurement_assembler.md R221). -/
def State.assemble (s : State) (m : Measurement) : State :=
  { s with
    status := statusWord 0#3 true false m.flags.mean
    einfo  := 0#9
    msel   := m.msel
    tpl    := m.tpl
    neg    := BitVec.ofBool m.neg
    mag    := m.mag
    dexp   := m.dexp
    dunit  := m.dunit
    nexp   := m.nexp
    nunit  := m.nunit
    flags  := m.flags.word }

/-- What DEC writes: the outcome, by R221 or by R231, R236 and R237, and `LEN <- 0`; FB is not written
(40_port_operations.md R123). -/
def State.commit (s : State) (outcome : Except DecError Measurement) : State :=
  match outcome with
  | .ok m => (s.assemble m).setLen 0#4
  | .error e => (s.raise e).setLen 0#4

/-- The DEC of a validated frame with these fields: the shared meaning of the frame classes (30_encoding.md R99,
46_measurement_assembler.md R220). -/
def State.runFrame (s : State) (f : FrameFields) : State :=
  s.commit (decodeFields s.config f)

end Sys2Proof.Machine
end

