-- ==== Sys2Proof/Machine/FrameClasses.lean ====
section
/-! DEFINITION. The meaning of every frame class (30_encoding.md R99, 43_mode_range_lookup.md R162 to R177):
what the DEC that interprets a validated frame of that class does. Each is the shared operation on the class's
own selector and override bits; the ROM image of the state decides the rest ("Under another admissible ROM
image the same rules hold with that image's entries"). -/

namespace Sys2Proof.Machine

/-- DEC.A10 (R162): selector 0x0, plain form: the mode's own table. -/
def execDecA10 (o : FrameOps) (s : State) : Host.Outcome State Fault Refusal :=
  .next (s.runFrame ⟨0x0#4, false, false, o⟩)

/-- DEC.A10.HZ (R162): selector 0x0, hz set, percent clear: the frequency table. -/
def execDecA10Hz (o : FrameOps) (s : State) : Host.Outcome State Fault Refusal :=
  .next (s.runFrame ⟨0x0#4, false, true, o⟩)

/-- DEC.A10.PCT (R162): selector 0x0, percent set: the percent table, hz any. -/
def execDecA10Pct (hz : Bool) (o : FrameOps) (s : State) : Host.Outcome State Fault Refusal :=
  .next (s.runFrame ⟨0x0#4, true, hz, o⟩)

/-- DEC.DIODE (R163): selector 0x1, plain form: the mode's own table. -/
def execDecDiode (o : FrameOps) (s : State) : Host.Outcome State Fault Refusal :=
  .next (s.runFrame ⟨0x1#4, false, false, o⟩)

/-- DEC.DIODE.HZ (R163): selector 0x1, hz set, percent clear: the frequency table. -/
def execDecDiodeHz (o : FrameOps) (s : State) : Host.Outcome State Fault Refusal :=
  .next (s.runFrame ⟨0x1#4, false, true, o⟩)

/-- DEC.DIODE.PCT (R163): selector 0x1, percent set: the percent table, hz any. -/
def execDecDiodePct (hz : Bool) (o : FrameOps) (s : State) : Host.Outcome State Fault Refusal :=
  .next (s.runFrame ⟨0x1#4, true, hz, o⟩)

/-- DEC.FREQ (R164): selector 0x2, plain form: the mode's own table. -/
def execDecFreq (o : FrameOps) (s : State) : Host.Outcome State Fault Refusal :=
  .next (s.runFrame ⟨0x2#4, false, false, o⟩)

/-- DEC.FREQ.HZ (R164): selector 0x2, hz set, percent clear: the frequency table. -/
def execDecFreqHz (o : FrameOps) (s : State) : Host.Outcome State Fault Refusal :=
  .next (s.runFrame ⟨0x2#4, false, true, o⟩)

/-- DEC.FREQ.PCT (R164): selector 0x2, percent set: the percent table, hz any. -/
def execDecFreqPct (hz : Bool) (o : FrameOps) (s : State) : Host.Outcome State Fault Refusal :=
  .next (s.runFrame ⟨0x2#4, true, hz, o⟩)

/-- DEC.OHM (R165): selector 0x3, plain form: the mode's own table. -/
def execDecOhm (o : FrameOps) (s : State) : Host.Outcome State Fault Refusal :=
  .next (s.runFrame ⟨0x3#4, false, false, o⟩)

/-- DEC.OHM.HZ (R165): selector 0x3, hz set, percent clear: the frequency table. -/
def execDecOhmHz (o : FrameOps) (s : State) : Host.Outcome State Fault Refusal :=
  .next (s.runFrame ⟨0x3#4, false, true, o⟩)

/-- DEC.OHM.PCT (R165): selector 0x3, percent set: the percent table, hz any. -/
def execDecOhmPct (hz : Bool) (o : FrameOps) (s : State) : Host.Outcome State Fault Refusal :=
  .next (s.runFrame ⟨0x3#4, true, hz, o⟩)

/-- DEC.TEMP (R166): selector 0x4, plain form: the mode's own table. -/
def execDecTemp (o : FrameOps) (s : State) : Host.Outcome State Fault Refusal :=
  .next (s.runFrame ⟨0x4#4, false, false, o⟩)

/-- DEC.TEMP.HZ (R166): selector 0x4, hz set, percent clear: the frequency table. -/
def execDecTempHz (o : FrameOps) (s : State) : Host.Outcome State Fault Refusal :=
  .next (s.runFrame ⟨0x4#4, false, true, o⟩)

/-- DEC.TEMP.PCT (R166): selector 0x4, percent set: the percent table, hz any. -/
def execDecTempPct (hz : Bool) (o : FrameOps) (s : State) : Host.Outcome State Fault Refusal :=
  .next (s.runFrame ⟨0x4#4, true, hz, o⟩)

/-- DEC.CONT (R167): selector 0x5, plain form: the mode's own table. -/
def execDecCont (o : FrameOps) (s : State) : Host.Outcome State Fault Refusal :=
  .next (s.runFrame ⟨0x5#4, false, false, o⟩)

/-- DEC.CONT.HZ (R167): selector 0x5, hz set, percent clear: the frequency table. -/
def execDecContHz (o : FrameOps) (s : State) : Host.Outcome State Fault Refusal :=
  .next (s.runFrame ⟨0x5#4, false, true, o⟩)

/-- DEC.CONT.PCT (R167): selector 0x5, percent set: the percent table, hz any. -/
def execDecContPct (hz : Bool) (o : FrameOps) (s : State) : Host.Outcome State Fault Refusal :=
  .next (s.runFrame ⟨0x5#4, true, hz, o⟩)

/-- DEC.CAP (R168): selector 0x6, plain form: the mode's own table. -/
def execDecCap (o : FrameOps) (s : State) : Host.Outcome State Fault Refusal :=
  .next (s.runFrame ⟨0x6#4, false, false, o⟩)

/-- DEC.CAP.HZ (R168): selector 0x6, hz set, percent clear: the frequency table. -/
def execDecCapHz (o : FrameOps) (s : State) : Host.Outcome State Fault Refusal :=
  .next (s.runFrame ⟨0x6#4, false, true, o⟩)

/-- DEC.CAP.PCT (R168): selector 0x6, percent set: the percent table, hz any. -/
def execDecCapPct (hz : Bool) (o : FrameOps) (s : State) : Host.Outcome State Fault Refusal :=
  .next (s.runFrame ⟨0x6#4, true, hz, o⟩)

/-- DEC.RSVD7 (R169): selector 0x7, which ROM_DEFAULT leaves undefined. -/
def execDecRsvd7 (percent : Bool) (hz : Bool) (o : FrameOps) (s : State) : Host.Outcome State Fault Refusal :=
  .next (s.runFrame ⟨0x7#4, percent, hz, o⟩)

/-- DEC.RSVD8 (R170): selector 0x8, which ROM_DEFAULT leaves undefined. -/
def execDecRsvd8 (percent : Bool) (hz : Bool) (o : FrameOps) (s : State) : Host.Outcome State Fault Refusal :=
  .next (s.runFrame ⟨0x8#4, percent, hz, o⟩)

/-- DEC.AMAN (R171): selector 0x9, plain form: the mode's own table. -/
def execDecAman (o : FrameOps) (s : State) : Host.Outcome State Fault Refusal :=
  .next (s.runFrame ⟨0x9#4, false, false, o⟩)

/-- DEC.AMAN.HZ (R171): selector 0x9, hz set, percent clear: the frequency table. -/
def execDecAmanHz (o : FrameOps) (s : State) : Host.Outcome State Fault Refusal :=
  .next (s.runFrame ⟨0x9#4, false, true, o⟩)

/-- DEC.AMAN.PCT (R171): selector 0x9, percent set: the percent table, hz any. -/
def execDecAmanPct (hz : Bool) (o : FrameOps) (s : State) : Host.Outcome State Fault Refusal :=
  .next (s.runFrame ⟨0x9#4, true, hz, o⟩)

/-- DEC.RSVD10 (R172): selector 0xA, which ROM_DEFAULT leaves undefined. -/
def execDecRsvd10 (percent : Bool) (hz : Bool) (o : FrameOps) (s : State) : Host.Outcome State Fault Refusal :=
  .next (s.runFrame ⟨0xA#4, percent, hz, o⟩)

/-- DEC.V (R173): selector 0xB, plain form: the mode's own table. -/
def execDecV (o : FrameOps) (s : State) : Host.Outcome State Fault Refusal :=
  .next (s.runFrame ⟨0xB#4, false, false, o⟩)

/-- DEC.V.HZ (R173): selector 0xB, hz set, percent clear: the frequency table. -/
def execDecVHz (o : FrameOps) (s : State) : Host.Outcome State Fault Refusal :=
  .next (s.runFrame ⟨0xB#4, false, true, o⟩)

/-- DEC.V.PCT (R173): selector 0xB, percent set: the percent table, hz any. -/
def execDecVPct (hz : Bool) (o : FrameOps) (s : State) : Host.Outcome State Fault Refusal :=
  .next (s.runFrame ⟨0xB#4, true, hz, o⟩)

/-- DEC.RSVD12 (R174): selector 0xC, which ROM_DEFAULT leaves undefined. -/
def execDecRsvd12 (percent : Bool) (hz : Bool) (o : FrameOps) (s : State) : Host.Outcome State Fault Refusal :=
  .next (s.runFrame ⟨0xC#4, percent, hz, o⟩)

/-- DEC.UA (R175): selector 0xD, plain form: the mode's own table. -/
def execDecUa (o : FrameOps) (s : State) : Host.Outcome State Fault Refusal :=
  .next (s.runFrame ⟨0xD#4, false, false, o⟩)

/-- DEC.UA.HZ (R175): selector 0xD, hz set, percent clear: the frequency table. -/
def execDecUaHz (o : FrameOps) (s : State) : Host.Outcome State Fault Refusal :=
  .next (s.runFrame ⟨0xD#4, false, true, o⟩)

/-- DEC.UA.PCT (R175): selector 0xD, percent set: the percent table, hz any. -/
def execDecUaPct (hz : Bool) (o : FrameOps) (s : State) : Host.Outcome State Fault Refusal :=
  .next (s.runFrame ⟨0xD#4, true, hz, o⟩)

/-- DEC.ADP (R176): selector 0xE, plain form: the mode's own table. -/
def execDecAdp (o : FrameOps) (s : State) : Host.Outcome State Fault Refusal :=
  .next (s.runFrame ⟨0xE#4, false, false, o⟩)

/-- DEC.ADP.HZ (R176): selector 0xE, hz set, percent clear: the frequency table. -/
def execDecAdpHz (o : FrameOps) (s : State) : Host.Outcome State Fault Refusal :=
  .next (s.runFrame ⟨0xE#4, false, true, o⟩)

/-- DEC.ADP.PCT (R176): selector 0xE, percent set: the percent table, hz any. -/
def execDecAdpPct (hz : Bool) (o : FrameOps) (s : State) : Host.Outcome State Fault Refusal :=
  .next (s.runFrame ⟨0xE#4, true, hz, o⟩)

/-- DEC.MA (R177): selector 0xF, plain form: the mode's own table. -/
def execDecMa (o : FrameOps) (s : State) : Host.Outcome State Fault Refusal :=
  .next (s.runFrame ⟨0xF#4, false, false, o⟩)

/-- DEC.MA.HZ (R177): selector 0xF, hz set, percent clear: the frequency table. -/
def execDecMaHz (o : FrameOps) (s : State) : Host.Outcome State Fault Refusal :=
  .next (s.runFrame ⟨0xF#4, false, true, o⟩)

/-- DEC.MA.PCT (R177): selector 0xF, percent set: the percent table, hz any. -/
def execDecMaPct (hz : Bool) (o : FrameOps) (s : State) : Host.Outcome State Fault Refusal :=
  .next (s.runFrame ⟨0xF#4, true, hz, o⟩)

end Sys2Proof.Machine
end

