-- ==== Sys2Proof/Machine/Port.lean ====
section
/-! DEFINITION. The meanings of the four port commands (40_port_operations.md R121 to R124). -/

namespace Sys2Proof.Machine

/-- NOP (R121): the next state equals the current state. -/
def execNop (s : State) : Host.Outcome State Fault Refusal :=
  .next s

/-- PUSH's effect (R122): store at FB[LEN] and count, or, with the buffer full, drop the byte and leave LEN at 15. -/
def State.pushByte (s : State) (b : Byte) : State :=
  if h : s.len.toNat < 14 then (s.writeFb ⟨s.len.toNat, h⟩ b).setLen (s.len + 1#4)
  else s.setLen 15#4

/-- PUSH b (R122). -/
def execPush (b : Byte) (s : State) : Host.Outcome State Fault Refusal :=
  .next (s.pushByte b)

/-- DEC (R123): the outcome of Decode(LEN, FB) is written and the candidate is consumed. -/
def execDec (s : State) : Host.Outcome State Fault Refusal :=
  .next (s.commit (decodeBuffer s.config s.len s.fb))

/-- RST (R124). -/
def execRst (s : State) : Host.Outcome State Fault Refusal :=
  .next s.rst

end Sys2Proof.Machine
end

