-- ==== Sys2Proof/Machine/Dispatch.lean ====
section
/-! DEFINITION. What an instruction does: one arm per constructor of Instr, each the call of its meaning. -/

namespace Sys2Proof.Machine

def exec (i : Instr) (s : State) : Host.Outcome State Fault Refusal :=
  match i with
  -- the port commands, 40_port_operations.md
  | .nop => Sys2Proof.Machine.execNop s
  | .push b => Sys2Proof.Machine.execPush b s
  | .dec => Sys2Proof.Machine.execDec s
  | .rst => Sys2Proof.Machine.execRst s
  -- the frame classes, 43_mode_range_lookup.md
  | .decA10 o => Sys2Proof.Machine.execDecA10 o s
  | .decA10Hz o => Sys2Proof.Machine.execDecA10Hz o s
  | .decA10Pct hz o => Sys2Proof.Machine.execDecA10Pct hz o s
  | .decDiode o => Sys2Proof.Machine.execDecDiode o s
  | .decDiodeHz o => Sys2Proof.Machine.execDecDiodeHz o s
  | .decDiodePct hz o => Sys2Proof.Machine.execDecDiodePct hz o s
  | .decFreq o => Sys2Proof.Machine.execDecFreq o s
  | .decFreqHz o => Sys2Proof.Machine.execDecFreqHz o s
  | .decFreqPct hz o => Sys2Proof.Machine.execDecFreqPct hz o s
  | .decOhm o => Sys2Proof.Machine.execDecOhm o s
  | .decOhmHz o => Sys2Proof.Machine.execDecOhmHz o s
  | .decOhmPct hz o => Sys2Proof.Machine.execDecOhmPct hz o s
  | .decTemp o => Sys2Proof.Machine.execDecTemp o s
  | .decTempHz o => Sys2Proof.Machine.execDecTempHz o s
  | .decTempPct hz o => Sys2Proof.Machine.execDecTempPct hz o s
  | .decCont o => Sys2Proof.Machine.execDecCont o s
  | .decContHz o => Sys2Proof.Machine.execDecContHz o s
  | .decContPct hz o => Sys2Proof.Machine.execDecContPct hz o s
  | .decCap o => Sys2Proof.Machine.execDecCap o s
  | .decCapHz o => Sys2Proof.Machine.execDecCapHz o s
  | .decCapPct hz o => Sys2Proof.Machine.execDecCapPct hz o s
  | .decRsvd7 percent hz o => Sys2Proof.Machine.execDecRsvd7 percent hz o s
  | .decRsvd8 percent hz o => Sys2Proof.Machine.execDecRsvd8 percent hz o s
  | .decAman o => Sys2Proof.Machine.execDecAman o s
  | .decAmanHz o => Sys2Proof.Machine.execDecAmanHz o s
  | .decAmanPct hz o => Sys2Proof.Machine.execDecAmanPct hz o s
  | .decRsvd10 percent hz o => Sys2Proof.Machine.execDecRsvd10 percent hz o s
  | .decV o => Sys2Proof.Machine.execDecV o s
  | .decVHz o => Sys2Proof.Machine.execDecVHz o s
  | .decVPct hz o => Sys2Proof.Machine.execDecVPct hz o s
  | .decRsvd12 percent hz o => Sys2Proof.Machine.execDecRsvd12 percent hz o s
  | .decUa o => Sys2Proof.Machine.execDecUa o s
  | .decUaHz o => Sys2Proof.Machine.execDecUaHz o s
  | .decUaPct hz o => Sys2Proof.Machine.execDecUaPct hz o s
  | .decAdp o => Sys2Proof.Machine.execDecAdp o s
  | .decAdpHz o => Sys2Proof.Machine.execDecAdpHz o s
  | .decAdpPct hz o => Sys2Proof.Machine.execDecAdpPct hz o s
  | .decMa o => Sys2Proof.Machine.execDecMa o s
  | .decMaHz o => Sys2Proof.Machine.execDecMaHz o s
  | .decMaPct hz o => Sys2Proof.Machine.execDecMaPct hz o s

end Sys2Proof.Machine
end

