-- ==== Sys2Proof/Machine/Fetch.lean ====
section
/-! DEFINITION. Which instruction the next step runs. The machine has no program counter and fetches nothing
(10_state.md R23): the host presents a command word (40_port_operations.md R120). A DEC over a validated candidate
interprets the 14 bytes in FB as one frame word (30_encoding.md R90), so its instruction is that frame's class;
every other DEC runs as the port command. -/

namespace Sys2Proof.Machine

/-- The instruction of a DEC: the class of the frame in FB where LEN = 14 and the frame is terminated. -/
def State.fetchDec (s : State) : Instr :=
  if s.len == 14#4 then
    match decodeFrame s.fb.toList with
    | .ok i => i
    | .error _ => .dec
  else .dec

/-- The instruction a command word stands for in a state. -/
def State.fetchWord (s : State) (c : CmdWord) : Instr :=
  if decodeCmd c = .dec then s.fetchDec else decodeCmd c

/-- The next instruction; none where the host has presented no command. -/
def State.fetch (s : State) : Option Instr :=
  s.port.head?.map s.fetchWord

/-- The state with the code of an instruction presented as the next one: a command word at the head of the port, or
a frame in FB with LEN = 14 and a DEC at the head of the port. -/
def State.present (s : State) (c : Code) : State :=
  match c with
  | .cmd w => { s with port := w :: s.port }
  | .frame bytes =>
    match frameOfList bytes with
    | some fb => { s with fb := fb, len := 14#4, port := 0x200#10 :: s.port }
    | none => s

end Sys2Proof.Machine
end

