-- ==== Sys2Proof/Machine/Step.lean ====
section
/-! DEFINITION. One step of the machine: take the command the host presented and run its instruction. -/

namespace Sys2Proof.Machine

/-- One step (40_port_operations.md R120). Where no command is presented the block keeps its state
(60_exceptions.md R249). -/
def step (s : State) : Host.Outcome State Fault Refusal :=
  match s.fetch with
  | none => .next s
  | some i => exec i s.popPort

/-- The state in which the next step runs the instruction of a table row's word. -/
def State.withFetchWord (s : State) (nbits w : Nat) : State :=
  match tableCode nbits w with
  | none => s
  | some c => s.present c

end Sys2Proof.Machine
end

