-- ==== Sys2Proof/WellFormed.lean ====
section
/-! DEFINITION. What is checked before a term is used: that a ROM image is admissible, WF(ROM) of
20_memory.md R61, and that an instruction is a class of the ROM image it runs under (30_encoding.md R99).
The widths of an instruction's operands are in their types, so no operand can be out of range. -/

namespace Sys2Proof

/-- W1: table 0 is the empty table. -/
abbrev Rom.W1 (rom : Rom) : Prop :=
  ∀ r : BitVec 3, rom.slot 0#4 r = none

/-- W2: the unit of every present slot has a NORMROM entry; no unit code 16 to 31 has one (30_encoding.md R101 (h)). -/
abbrev Rom.W2 (rom : Rom) : Prop :=
  ∀ (t : BitVec 4) (r : BitVec 3), ∀ e ∈ rom.slot t r, (rom.norm e.unit).isSome

/-- W3: canonical units are fixed points of the normaliser. -/
abbrev Rom.W3 (rom : Rom) : Prop :=
  ∀ u : BitVec 5, ∀ n ∈ rom.norm u, rom.norm n.canon = some ⟨0#5, n.canon⟩

/-- W4, the voltage entry: selector 0xB is defined and slot 0 of its own table is template "2.2000"
(code 0), unit V (code 0), exponent -4. -/
abbrev Rom.W4Voltage (rom : Rom) : Prop :=
  ∃ m ∈ rom.mode 0xB#4, rom.slot m.tid 0#3 = some ⟨0#3, 0#5, BitVec.ofInt 4 (-4)⟩

/-- W4, the micro-amp entry: selector 0xD is defined and slot 1 of its own table has unit uA (code 4) and
exponent -1. -/
abbrev Rom.W4Microamp (rom : Rom) : Prop :=
  ∃ m ∈ rom.mode 0xD#4, ∃ e ∈ rom.slot m.tid 1#3, e.unit = 4#5 ∧ e.sexp = BitVec.ofInt 4 (-1)

/-- W4, the pinned normalisation entries, by the unit codes of R73: V, mV, A, uA, Ohm, kOhm, F, nF, Hz,
MHz, %. -/
abbrev Rom.W4Norm (rom : Rom) : Prop :=
  rom.norm 0#5 = some ⟨0#5, 0#5⟩ ∧ rom.norm 1#5 = some ⟨BitVec.ofInt 5 (-3), 0#5⟩ ∧
  rom.norm 2#5 = some ⟨0#5, 2#5⟩ ∧ rom.norm 4#5 = some ⟨BitVec.ofInt 5 (-6), 2#5⟩ ∧
  rom.norm 5#5 = some ⟨0#5, 5#5⟩ ∧ rom.norm 6#5 = some ⟨BitVec.ofInt 5 3, 5#5⟩ ∧
  rom.norm 8#5 = some ⟨0#5, 8#5⟩ ∧ rom.norm 9#5 = some ⟨BitVec.ofInt 5 (-9), 8#5⟩ ∧
  rom.norm 12#5 = some ⟨0#5, 12#5⟩ ∧ rom.norm 14#5 = some ⟨BitVec.ofInt 5 6, 12#5⟩ ∧
  rom.norm 15#5 = some ⟨0#5, 15#5⟩

/-- W5: the percent and frequency tables are not the empty table. -/
abbrev Rom.W5 (rom : Rom) : Prop :=
  rom.pctTid ≠ 0#4 ∧ rom.hzTid ≠ 0#4

/-- W6: some mode selector is undefined. -/
abbrev Rom.W6 (rom : Rom) : Prop :=
  ∃ m : BitVec 4, rom.mode m = none

/-- WF(ROM), the constraints every admissible image meets (20_memory.md R61). -/
abbrev Rom.Admissible (rom : Rom) : Prop :=
  rom.W1 ∧ rom.W2 ∧ rom.W3 ∧ rom.W4Voltage ∧ rom.W4Microamp ∧ rom.W4Norm ∧ rom.W5 ∧ rom.W6

/-- An instruction is a class of the opcode map under a ROM image: a mode's class where the image defines
the selector, a RSVD class where it does not (30_encoding.md R99 (2), (3)). A port command always is. -/
def Instr.wf (rom : Rom) : Instr → Bool
  | .nop => true
  | .push _ => true
  | .dec => true
  | .rst => true
  | .decA10 _ => (rom.mode 0x0#4).isSome
  | .decA10Hz _ => (rom.mode 0x0#4).isSome
  | .decA10Pct _ _ => (rom.mode 0x0#4).isSome
  | .decDiode _ => (rom.mode 0x1#4).isSome
  | .decDiodeHz _ => (rom.mode 0x1#4).isSome
  | .decDiodePct _ _ => (rom.mode 0x1#4).isSome
  | .decFreq _ => (rom.mode 0x2#4).isSome
  | .decFreqHz _ => (rom.mode 0x2#4).isSome
  | .decFreqPct _ _ => (rom.mode 0x2#4).isSome
  | .decOhm _ => (rom.mode 0x3#4).isSome
  | .decOhmHz _ => (rom.mode 0x3#4).isSome
  | .decOhmPct _ _ => (rom.mode 0x3#4).isSome
  | .decTemp _ => (rom.mode 0x4#4).isSome
  | .decTempHz _ => (rom.mode 0x4#4).isSome
  | .decTempPct _ _ => (rom.mode 0x4#4).isSome
  | .decCont _ => (rom.mode 0x5#4).isSome
  | .decContHz _ => (rom.mode 0x5#4).isSome
  | .decContPct _ _ => (rom.mode 0x5#4).isSome
  | .decCap _ => (rom.mode 0x6#4).isSome
  | .decCapHz _ => (rom.mode 0x6#4).isSome
  | .decCapPct _ _ => (rom.mode 0x6#4).isSome
  | .decRsvd7 _ _ _ => (rom.mode 0x7#4).isNone
  | .decRsvd8 _ _ _ => (rom.mode 0x8#4).isNone
  | .decAman _ => (rom.mode 0x9#4).isSome
  | .decAmanHz _ => (rom.mode 0x9#4).isSome
  | .decAmanPct _ _ => (rom.mode 0x9#4).isSome
  | .decRsvd10 _ _ _ => (rom.mode 0xA#4).isNone
  | .decV _ => (rom.mode 0xB#4).isSome
  | .decVHz _ => (rom.mode 0xB#4).isSome
  | .decVPct _ _ => (rom.mode 0xB#4).isSome
  | .decRsvd12 _ _ _ => (rom.mode 0xC#4).isNone
  | .decUa _ => (rom.mode 0xD#4).isSome
  | .decUaHz _ => (rom.mode 0xD#4).isSome
  | .decUaPct _ _ => (rom.mode 0xD#4).isSome
  | .decAdp _ => (rom.mode 0xE#4).isSome
  | .decAdpHz _ => (rom.mode 0xE#4).isSome
  | .decAdpPct _ _ => (rom.mode 0xE#4).isSome
  | .decMa _ => (rom.mode 0xF#4).isSome
  | .decMaHz _ => (rom.mode 0xF#4).isSome
  | .decMaPct _ _ => (rom.mode 0xF#4).isSome

end Sys2Proof
end

