-- ==== Sys2Proof/Safety.lean ====
section
/-! DEFINITION. The terms claims are stated in: runs of instructions, the number a decimal triple denotes, what a
validated candidate is, and the invariant of the result registers (10_state.md R37). -/

namespace Sys2Proof.Machine

/-- A step that completes: neither a fault nor a refusal (40_port_operations.md R120). -/
def Completes (o : Host.Outcome State Fault Refusal) : Prop :=
  ∃ t, o = .next t

/-- The instructions of a list, one after the other; stops at the first that does not answer a next state. -/
def execAll : List Instr → State → Host.Outcome State Fault Refusal
  | [], s => .next s
  | i :: is, s =>
    match exec i s with
    | .next t => execAll is t
    | .fault r => .fault r
    | .refused r => .refused r

/-- `dec(neg, mag, e) = (-1)^neg * mag * 10^e`, an exact rational (00_scope.md R10). -/
def decValue (neg : BitVec 1) (mag : BitVec 18) (e : Int) : ℚ :=
  (-1 : ℚ) ^ neg.toNat * (mag.toNat : ℚ) * (10 : ℚ) ^ e

/-- The displayed value (10_state.md R29). -/
def State.displayed (s : State) : ℚ :=
  decValue s.neg s.mag s.dexp.toInt

/-- The normalised value (10_state.md R30). -/
def State.normalised (s : State) : ℚ :=
  decValue s.neg s.mag s.nexp.toInt

/-- The candidate in the buffer is a validated frame (00_scope.md R12): 14 bytes that end in 0x0D 0x0A. -/
abbrev State.Validated (s : State) : Prop :=
  s.len = 14#4 ∧ s.fb[12] = 0x0D#8 ∧ s.fb[13] = 0x0A#8

/-- Two states whose STATUS, EINFO and result registers are equal: all a host can read (40_port_operations.md R125). -/
abbrev SameResults (s t : State) : Prop :=
  s.status = t.status ∧ s.einfo = t.einfo ∧ s.msel = t.msel ∧ s.tpl = t.tpl ∧ s.neg = t.neg ∧
  s.mag = t.mag ∧ s.dexp = t.dexp ∧ s.dunit = t.dunit ∧ s.nexp = t.nexp ∧ s.nunit = t.nunit ∧
  s.flags = t.flags

/-! ## What an outcome leaves, written out from the register rules -/

/-- The digits as a number, `10000*d1 + 1000*d2 + 100*d3 + 10*d4 + d5` (44_bcd_value_decoder.md R196). -/
def magnitude (o : FrameOps) : Nat :=
  10000 * o.d1.toNat + 1000 * o.d2.toNat + 100 * o.d3.toNat + 10 * o.d4.toNat + o.d5.toNat

/-- FLAGS as a number, by the bit places of 10_state.md R31. -/
def flagsNumber (percent lowbat hz : Bool) (o : FrameOps) : Nat :=
  percent.toNat + 2 * o.minus.toNat + 4 * lowbat.toNat + 8 * o.overload.toNat + 16 * o.underload.toNat +
  32 * o.rel.toNat + 64 * o.max.toNat + 128 * o.min.toNat + 256 * o.dc.toNat + 512 * o.ac.toNat +
  1024 * o.auto.toNat + 2048 * hz.toNat + 4096 * o.hold.toNat

/-- What an OK outcome leaves (46_measurement_assembler.md R221): the measurement of selector `msel`, slot `re` and
normalisation entry `ne`, LEN 0, and everything else as it was. STATUS is 0x28, or 0x08 where the digits are not
meaningful. -/
def State.withOk (s : State) (msel : BitVec 4) (percent hz : Bool) (o : FrameOps) (re : RangeEntry)
    (ne : NormEntry) : State :=
  { s with
    len    := 0#4
    status := if o.overload || o.underload then 0x08#6 else 0x28#6
    einfo  := 0#9
    msel   := msel
    tpl    := re.tpl
    neg    := if o.minus then 1#1 else 0#1
    mag    := BitVec.ofNat 18 (magnitude o)
    dexp   := re.sexp
    dunit  := re.unit
    nexp   := BitVec.ofInt 6 (re.sexp.toInt + ne.exp.toInt)
    nunit  := ne.canon
    flags  := BitVec.ofNat 13 (flagsNumber percent
      (match s.config.lowbatMask with | .bit1 => o.bat | .bit3 => percent) hz o) }

/-- What an error condition leaves (60_exceptions.md R231, R236, R237, R240): STATUS and EINFO as given, the result
registers and LEN 0, and everything else as it was. -/
def State.withError (s : State) (status : BitVec 6) (einfo : BitVec 9) : State :=
  { s with
    len := 0#4, status := status, einfo := einfo, msel := 0#4, tpl := 0#3, neg := 0#1, mag := 0#18,
    dexp := 0#4, dunit := 0#5, nexp := 0#6, nunit := 0#5, flags := 0#13 }

/-! ## The fields of the frame in the buffer, read off its bits (30_encoding.md R92) -/

/-- The mode selector, byte 6 bits 3:0. -/
def State.selector (s : State) : BitVec 4 :=
  s.fb[6].extractLsb' 0 4

/-- The range index, byte 0 bits 2:0. -/
def State.rangeIndex (s : State) : BitVec 3 :=
  s.fb[0].extractLsb' 0 3

/-- The percent bit, byte 7 bit 3. -/
def State.percentBit (s : State) : Bool :=
  s.fb[7].getLsbD 3

/-- The Hz bit, byte 10 bit 0. -/
def State.hzBit (s : State) : Bool :=
  s.fb[10].getLsbD 0

/-- The operand fields, each read off its bits. -/
def State.operands (s : State) : FrameOps where
  ridx      := s.fb[0].extractLsb' 0 3
  d1        := s.fb[1].extractLsb' 0 4
  d2        := s.fb[2].extractLsb' 0 4
  d3        := s.fb[3].extractLsb' 0 4
  d4        := s.fb[4].extractLsb' 0 4
  d5        := s.fb[5].extractLsb' 0 4
  minus     := s.fb[7].getLsbD 2
  bat       := s.fb[7].getLsbD 1
  overload  := s.fb[7].getLsbD 0
  rel       := s.fb[8].getLsbD 1
  underload := s.fb[9].getLsbD 3
  max       := s.fb[9].getLsbD 2
  min       := s.fb[9].getLsbD 1
  dc        := s.fb[10].getLsbD 3
  ac        := s.fb[10].getLsbD 2
  auto      := s.fb[10].getLsbD 1
  hold      := s.fb[11].getLsbD 1

/-- The table a frame selects: percent, else frequency, else the mode's own (43_mode_range_lookup.md R182). -/
def tableId (rom : Rom) (percent hz : Bool) (me : ModeEntry) : BitVec 4 :=
  if percent then rom.pctTid else if hz then rom.hzTid else me.tid

/-- The code of that selection: 1, 2 or 0 (43_mode_range_lookup.md R182). -/
def tableSelCode (percent hz : Bool) : BitVec 2 :=
  if percent then 1#2 else if hz then 2#2 else 0#2

/-! ## The invariant of the result registers -/

/-- R37 (a): VALID and FAIL follow CODE, and CODE is one of 0, 1, 2, 3, 4, 7. -/
abbrev State.CodeInv (s : State) : Prop :=
  (s.valid = true ↔ s.code = 0#3) ∧
  (s.fail = true ↔ s.code = 2#3 ∨ s.code = 3#3 ∨ s.code = 4#3) ∧
  s.code ≠ 5#3 ∧ s.code ≠ 6#3

/-- R37 (b): the result registers and MEAN are 0 unless CODE is 0. -/
abbrev State.ClearedInv (s : State) : Prop :=
  s.code ≠ 0#3 →
    s.msel = 0#4 ∧ s.tpl = 0#3 ∧ s.neg = 0#1 ∧ s.mag = 0#18 ∧ s.dexp = 0#4 ∧ s.dunit = 0#5 ∧
    s.nexp = 0#6 ∧ s.nunit = 0#5 ∧ s.flags = 0#13 ∧ s.mean = false

/-- R37 (c): what an OK result satisfies, under the state's own ROM image. -/
abbrev State.ResultInv (s : State) : Prop :=
  s.code = 0#3 →
    s.einfo = 0#9 ∧ (s.config.rom.mode s.msel).isSome ∧ s.neg = BitVec.ofBool (s.flags.getLsbD 1) ∧
    s.mag.toNat ≤ 166665 ∧
    (∃ ne ∈ s.config.rom.norm s.dunit,
      s.nexp.toInt = s.dexp.toInt + ne.exp.toInt ∧ s.nunit = ne.canon) ∧
    s.mean = !(s.flags.getLsbD 3 || s.flags.getLsbD 4)

/-- The invariant of 10_state.md R37. Clause (d), LEN at most 15, is in LEN's width. -/
abbrev State.Inv (s : State) : Prop :=
  s.CodeInv ∧ s.ClearedInv ∧ s.ResultInv

end Sys2Proof.Machine
end

