-- ==== Sys2Proof/Certificates/Slice0/Obligations.lean ====
section
/-! DEFINITION. The statements for the provers. Each docstring says which rule of spec/ it formalises. Every statement
about a decode holds for every ROM image and both values of LOWBAT_MASK (they are in `s.config`), unless it names the
default image. -/

open Sys2Proof Sys2Proof.Machine

/-! ## Encodings -/

/-- 30_encoding.md R91, R92, R99: decoding an instruction's encoding gives it back, with every operand at every
value. -/
def Obligations.DecodeOfEncodeIsTheInstruction : Prop :=
  ∀ i : Instr, decode (encode i) = .ok i

/-- 30_encoding.md R98, R103: an assembled frame decodes to the class of its fields, whatever its upper nibbles are, and
that class has exactly those fields. -/
def Obligations.AssembledFrameDecodesForEveryUpperNibble : Prop :=
  ∀ (hi : BitVec 4) (f : FrameFields),
    ∃ i, decode (.frame (assemble hi f).toList) = .ok i ∧ i.fields = some f

/-- 30_encoding.md R91: `CMD[9:8]` selects the command, the data field of NOP, DEC and RST is ignored, and every word has
a command. -/
def Obligations.CommandWordsDecodeByTheirOpBits : Prop :=
  (∀ data : Byte,
    decode (.cmd (0b00#2 ++ data)) = .ok .nop ∧
    decode (.cmd (0b01#2 ++ data)) = .ok (.push data) ∧
    decode (.cmd (0b10#2 ++ data)) = .ok .dec ∧
    decode (.cmd (0b11#2 ++ data)) = .ok .rst) ∧
  ∀ w : CmdWord, ∃ i, decode (.cmd w) = .ok i

/-- 30_encoding.md R99: every terminated 14-byte frame matches exactly one FRAME row of the opcode table, and decodes to
the instruction of that row; a frame that is not terminated matches none. -/
def Obligations.TerminatedFrameMatchesExactlyOneRow : Prop :=
  ∀ fb : FrameBytes,
    (fb[12] = 0x0D#8 ∧ fb[13] = 0x0A#8 →
      ∃ r ∈ frameRows, r.fits (frameWord fb) = true ∧
        (∀ r' ∈ frameRows, r'.fits (frameWord fb) = true → r' = r) ∧
        ∃ i, decode (.frame fb.toList) = .ok i ∧ i.mnemonic = r.mnemonic) ∧
    (¬ (fb[12] = 0x0D#8 ∧ fb[13] = 0x0A#8) →
      ∀ r ∈ frameRows, r.fits (frameWord fb) = false)

/-- Sanity: words written out from 30_encoding.md R91 and R103 decode to what they stand for. -/
def Obligations.SampleWordsDecode : Prop :=
  decode (.cmd 0x13B#10) = .ok (.push 0x3B#8) ∧
  decode (.cmd 0x2FF#10) = .ok .dec ∧
  decode (.frame [0x01, 0x00, 0x02, 0x02, 0x00, 0x00, 0x0D, 0x04, 0x00, 0x00, 0x00, 0x00, 0x0D, 0x0A]) =
    .ok (.decUa ⟨1, 0, 2, 2, 0, 0, true, false, false, false, false, false, false, false, false, false, false⟩) ∧
  decode (.frame [0x02, 0x00, 0x00, 0x09, 0x09, 0x09, 0x0B, 0x08, 0x00, 0x00, 0x01, 0x00, 0x0D, 0x0A]) =
    .ok (.decVPct true
      ⟨2, 0, 0, 9, 9, 9, false, false, false, false, false, false, false, false, false, false, false⟩) ∧
  decode (.frame [0x00, 0x01, 0x02, 0x03, 0x04, 0x05, 0x08, 0x00, 0x00, 0x00, 0x00, 0x00, 0x0D, 0x0A]) =
    .ok (.decRsvd8 false false
      ⟨0, 1, 2, 3, 4, 5, false, false, false, false, false, false, false, false, false, false, false⟩)

/-- 30_encoding.md R99 (1): a candidate that is not 14 bytes, or is not terminated, is no instruction. -/
def Obligations.UnframedCandidatesAreRejectedByName : Prop :=
  (∀ bytes : List Byte, bytes.length ≠ 14 →
    decode (.frame bytes) = .error (.frameLength bytes.length)) ∧
  ∀ fb : FrameBytes, ¬ (fb[12] = 0x0D#8 ∧ fb[13] = 0x0A#8) →
    decode (.frame fb.toList) = .error (.frameTerminator fb[12] fb[13])

/-- 30_encoding.md R99 (2), (3): whatever decodes is a class of the default image: a mode's class where ROM_DEFAULT
defines the selector, a RSVD class where it does not. Which selectors those are is PRESUMED but for 0xB and 0xD (log
entry 8). -/
def Obligations.DecodedInstructionsAreClassesOfTheDefaultRom : Prop :=
  ∀ (c : Code) (i : Instr), decode c = .ok i → i.wf romDefault = true

/-! ## Port commands, the step and reset -/

/-- 40_port_operations.md R121. -/
def Obligations.NopChangesNothing : Prop :=
  (∀ data : Byte, decodeCmd (0b00#2 ++ data) = .nop) ∧
  ∀ s : State, exec .nop s = .next s

/-- 40_port_operations.md R122: the byte is stored and counted, or dropped with LEN at 15 so that the next DEC reports
FramingError; nothing else changes. -/
def Obligations.PushStoresTheByteOrSaturates : Prop :=
  ∀ (s : State) (b : Byte),
    decodeCmd (0b01#2 ++ b) = .push b ∧
    (∀ _ : s.len.toNat < 14,
      exec (.push b) s =
        .next { s with fb := s.fb.set s.len.toNat b, len := BitVec.ofNat 4 (s.len.toNat + 1) }) ∧
    (14 ≤ s.len.toNat →
      exec (.push b) s = .next { s with len := 15#4 } ∧
      ∃ t, exec .dec { s with len := 15#4 } = .next t ∧ t.code = 1#3)

/-- The frame of PUSH (40_port_operations.md R122): every byte of FB but FB[LEN], every byte where the buffer is full, and
every other register is unchanged. -/
def Obligations.PushLeavesEverythingElse : Prop :=
  ∀ (s t : State) (b : Byte), exec (.push b) s = .next t →
    (∀ (j : Nat) (h : j < 14), (j = s.len.toNat → t.fb[j] = b) ∧ (j ≠ s.len.toNat → t.fb[j] = s.fb[j])) ∧
    SameResults t s ∧ t.config = s.config ∧ t.port = s.port

/-- 40_port_operations.md R124: every piece of state takes its reset value, the tables and LOWBAT_MASK keep theirs, and a
second RST changes nothing. That RST leaves the commands presented behind it as they are (`port`) is the model's choice, log
entry 2. -/
def Obligations.RstGivesEveryRegisterItsResetValue : Prop :=
  (∀ data : Byte, decodeCmd (0b11#2 ++ data) = .rst) ∧
  ∀ s : State, ∃ t, exec .rst s = .next t ∧
    t = { fb := Vector.replicate 14 0x00#8, len := 0#4, status := 0x07#6, einfo := 0#9, msel := 0#4, tpl := 0#3,
          neg := 0#1, mag := 0#18, dexp := 0#4, dunit := 0#5, nexp := 0#6, nunit := 0#5, flags := 0#13,
          config := s.config, port := s.port } ∧
    exec .rst t = .next t

/-- 10_state.md R35: the values after power-up and after RST. -/
def Obligations.ResetValuesAreTheSpecified : Prop :=
  ∀ t : State, t = State.reset ∨ (∃ s, exec .rst s = .next t) →
    (∀ (i : Nat) (h : i < 14), t.fb[i] = 0x00#8) ∧ t.len = 0#4 ∧
    t.code = 7#3 ∧ t.valid = false ∧ t.fail = false ∧ t.mean = false ∧ t.einfo = 0#9 ∧
    t.msel = 0#4 ∧ t.tpl = 0#3 ∧ t.neg = 0#1 ∧ t.mag = 0#18 ∧ t.dexp = 0#4 ∧ t.dunit = 0#5 ∧
    t.nexp = 0#6 ∧ t.nunit = 0#5 ∧ t.flags = 0#13

/-- A step runs the decoded instruction (30_encoding.md R90, 40_port_operations.md R120): the one of the command word at
the port; for a DEC over a validated candidate the class of the frame in FB, under every image the class of the default
table, and for any other DEC the port command (the model's reading of R90 and R99, DEDUCED: log entry 4); and, the model's
own convention (log entry 2), nothing where no command is presented. -/
def Obligations.StepRunsTheDecodedInstruction : Prop :=
  ∀ s : State,
    (s.port = [] → step s = .next s) ∧
    ∀ (c : CmdWord) (rest : List CmdWord) (i : Instr), s.port = c :: rest →
      (decode (.cmd c) = .ok i → i ≠ .dec → step s = exec i { s with port := rest }) ∧
      (decode (.cmd c) = .ok .dec → s.len = 14#4 → decode (.frame s.fb.toList) = .ok i →
        step s = exec i { s with port := rest }) ∧
      (decode (.cmd c) = .ok .dec → ¬ s.Validated → step s = exec .dec { s with port := rest })

/-- 40_port_operations.md R120: the step is total, and it runs the command that `CMD[9:8]` selects. -/
def Obligations.StepRunsTheCommandAndCompletes : Prop :=
  ∀ (s : State) (op : BitVec 2) (data : Byte) (rest : List CmdWord), s.port = (op ++ data) :: rest →
    (op = 0b00#2 → step s = exec .nop { s with port := rest }) ∧
    (op = 0b01#2 → step s = exec (.push data) { s with port := rest }) ∧
    (op = 0b10#2 → step s = exec .dec { s with port := rest }) ∧
    (op = 0b11#2 → step s = exec .rst { s with port := rest }) ∧
    Completes (step s)

/-- 40_port_operations.md R120, 60_exceptions.md R242: no instruction and no step, in any state, faults or is refused. -/
def Obligations.EveryInstructionAndStepCompletes : Prop :=
  (∀ (i : Instr) (s : State), Completes (exec i s)) ∧ ∀ s : State, Completes (step s)

/-- 30_encoding.md R102: LEN counts the PUSH commands up to 15, the first 14 bytes are in FB in push order, and the
earlier result stays readable. -/
def Obligations.PushesFillTheBufferInOrder : Prop :=
  ∀ (bytes : List Byte) (s : State), s.len = 0#4 →
    ∃ t, execAll (bytes.map .push) s = .next t ∧
      t.len = BitVec.ofNat 4 (min bytes.length 15) ∧
      (∀ (i : Nat) (h : i < 14), t.fb[i] = bytes[i]?.getD s.fb[i]) ∧
      SameResults t s ∧ t.config = s.config ∧ t.port = s.port

/-- 30_encoding.md R104: pushing the 14 bytes of an assembled frame into an empty buffer and then DEC is that frame's
class, over the buffer that holds it. That the class is named by the default table under every image is DEDUCED (log entry
4). -/
def Obligations.SendRunsTheClassOfItsFrame : Prop :=
  ∀ (hi : BitVec 4) (f : FrameFields) (i : Instr) (s : State), s.len = 0#4 → i.fields = some f →
    execAll (send hi f) s = exec i { s with fb := assemble hi f, len := 14#4 }

/-- 20_memory.md R58 (c): NOP and PUSH do not disturb the result registers. -/
def Obligations.LoadingKeepsTheEarlierResult : Prop :=
  ∀ (s : State) (op : BitVec 2) (data : Byte) (rest : List CmdWord), s.port = (op ++ data) :: rest →
    op = 0b00#2 ∨ op = 0b01#2 →
    ∃ t, step s = .next t ∧ SameResults t s ∧ t.port = rest

/-- 40_port_operations.md R125: what a host can read is STATUS, EINFO and the result registers, and nothing else. -/
def Obligations.HostReadsExactlyTheResultRegisters : Prop :=
  ∀ s t : State, (∀ r : HostReg, s.hostRead r = t.hostRead r) ↔ SameResults s t

/-- 20_memory.md R75: no command writes any table. -/
def Obligations.NoInstructionWritesATable : Prop :=
  (∀ (i : Instr) (s t : State), exec i s = .next t → t.config = s.config) ∧
  ∀ s t : State, step s = .next t → t.config = s.config

/-! ## DEC: validation, the outcomes and their priority -/

/-- 30_encoding.md R90, R99: over a validated candidate DEC is the class of the frame in FB. That the class is named by the
default table under every image is DEDUCED (log entry 4). -/
def Obligations.DecOfAValidatedFrameIsItsClass : Prop :=
  ∀ (s : State) (i : Instr), s.len = 14#4 → decode (.frame s.fb.toList) = .ok i →
    exec .dec s = exec i s

/-- The frame of DEC and of every frame class (40_port_operations.md R123): FB, the configuration and the commands
presented are unchanged, and LEN is 0. -/
def Obligations.DecodingLeavesTheBufferAndEmptiesIt : Prop :=
  ∀ (i : Instr) (s : State), i = .dec ∨ i.fields.isSome →
    ∃ t, exec i s = .next t ∧ t.fb = s.fb ∧ t.len = 0#4 ∧ t.config = s.config ∧ t.port = s.port

/-- 60_exceptions.md R232: FramingError, its cause, what it records and its effect. -/
def Obligations.UnvalidatedCandidateIsInvalid : Prop :=
  ∀ s : State,
    (¬ s.Validated → exec .dec s = .next (s.withError 0x01#6 (s.len.zeroExtend 9))) ∧
    (s.Validated → ∃ t, exec .dec s = .next t ∧ t.code ≠ 1#3)

/-- 41_frame_validator.md R134: a candidate of any length that is not 14 bytes ending in 0x0D 0x0A is invalid and never
a failure, and the commands complete. -/
def Obligations.BadCandidateIsInvalidAndNeverAFailure : Prop :=
  ∀ (bytes : List Byte) (s : State), s.len = 0#4 →
    ¬ (bytes.length = 14 ∧ bytes[12]? = some 0x0D#8 ∧ bytes[13]? = some 0x0A#8) →
    ∃ t, execAll (sendraw bytes) s = .next t ∧
      t.valid = false ∧ t.code = 1#3 ∧ t.fail = false ∧ t.einfo = BitVec.ofNat 9 (min bytes.length 15)

/-- 41_frame_validator.md R131: the outcome of a candidate that fails VALIDATE does not depend on its bytes 0 to 11. -/
def Obligations.InvalidOutcomeIgnoresTheFrameBytes : Prop :=
  ∀ s s' : State, ¬ s.Validated → s'.len = s.len → s'.fb[12] = s.fb[12] → s'.fb[13] = s.fb[13] →
    ∃ t t', exec .dec s = .next t ∧ exec .dec s' = .next t' ∧ SameResults t t' ∧ t.code = 1#3

/-- 46_measurement_assembler.md R220, R221: where the selector is defined, the selected slot present and its unit known,
DEC writes the whole measurement. -/
def Obligations.ValidatedFrameIsMeasured : Prop :=
  ∀ (s : State) (me : ModeEntry) (re : RangeEntry) (ne : NormEntry), s.Validated →
    s.config.rom.mode s.selector = some me →
    s.config.rom.slot (tableId s.config.rom s.percentBit s.hzBit me) s.rangeIndex = some re →
    s.config.rom.norm re.unit = some ne →
    exec .dec s = .next (s.withOk s.selector s.percentBit s.hzBit s.operands re ne)

/-- 60_exceptions.md R233: UnsupportedModeError, its cause, what it records and its effect. -/
def Obligations.UndefinedModeIsReported : Prop :=
  ∀ s : State, s.Validated →
    (s.config.rom.mode s.selector = none →
      exec .dec s = .next (s.withError 0x12#6 (s.selector.zeroExtend 9))) ∧
    (s.config.rom.mode s.selector ≠ none → ∃ t, exec .dec s = .next t ∧ t.code ≠ 2#3)

/-- 60_exceptions.md R234: UnsupportedRangeError, its cause, what it records and its effect. -/
def Obligations.AbsentSlotIsReported : Prop :=
  ∀ (s : State) (me : ModeEntry), s.Validated → s.config.rom.mode s.selector = some me →
    (s.config.rom.slot (tableId s.config.rom s.percentBit s.hzBit me) s.rangeIndex = none →
      exec .dec s = .next
        (s.withError 0x13#6 (tableSelCode s.percentBit s.hzBit ++ s.rangeIndex ++ s.selector))) ∧
    (s.config.rom.slot (tableId s.config.rom s.percentBit s.hzBit me) s.rangeIndex ≠ none →
      ∃ t, exec .dec s = .next t ∧ t.code ≠ 3#3)

/-- 60_exceptions.md R235 (the cause, what it records and its effect). -/
def Obligations.UnknownUnitIsReported : Prop :=
  ∀ (s : State) (me : ModeEntry) (re : RangeEntry), s.Validated →
    s.config.rom.mode s.selector = some me →
    s.config.rom.slot (tableId s.config.rom s.percentBit s.hzBit me) s.rangeIndex = some re →
    (s.config.rom.norm re.unit = none →
      exec .dec s = .next
        (s.withError 0x14#6 (tableSelCode s.percentBit s.hzBit ++ s.rangeIndex ++ s.selector))) ∧
    (s.config.rom.norm re.unit ≠ none → ∃ t, exec .dec s = .next t ∧ t.code = 0#3)

/-- 60_exceptions.md R238: DEC reports the first condition in stage order. -/
def Obligations.FirstConditionInStageOrderIsReported : Prop :=
  ∀ s : State, ∃ t, exec .dec s = .next t ∧
    t.code =
      if ¬ s.Validated then 1#3 else
      match s.config.rom.mode s.selector with
      | none => 2#3
      | some me =>
        match s.config.rom.slot (tableId s.config.rom s.percentBit s.hzBit me) s.rangeIndex with
        | none => 3#3
        | some re => if s.config.rom.norm re.unit = none then 4#3 else 0#3

/-- 60_exceptions.md R230, R231: every DEC ends in exactly one of five outcomes, each with its CODE, VALID and FAIL. -/
def Obligations.EveryDecEndsInOneOfFiveOutcomes : Prop :=
  ∀ s : State, ∃ t, exec .dec s = .next t ∧
    ((t.code = 0#3 ∧ t.valid = true ∧ t.fail = false) ∨
     (t.code = 1#3 ∧ t.valid = false ∧ t.fail = false) ∨
     (t.code = 2#3 ∧ t.valid = false ∧ t.fail = true) ∨
     (t.code = 3#3 ∧ t.valid = false ∧ t.fail = true) ∨
     (t.code = 4#3 ∧ t.valid = false ∧ t.fail = true))

/-- 46_measurement_assembler.md R223: Decode is a function of (n, FB, ROM, LOWBAT_MASK) alone, and not of FB where n is not
14. -/
def Obligations.DecIsAFunctionOfTheCandidate : Prop :=
  ∀ s s' : State, s'.len = s.len → s'.config = s.config → s'.fb = s.fb ∨ s.len ≠ 14#4 →
    ∃ t t', exec .dec s = .next t ∧ exec .dec s' = .next t' ∧ SameResults t t'

/-- 30_encoding.md R98: two validated frames that agree on every field of R92 give the same outcome and the same result
registers. -/
def Obligations.UnusedFrameBitsDoNotMatter : Prop :=
  ∀ s s' : State, s.Validated → s'.Validated → s'.config = s.config →
    s'.fb[0].extractLsb' 0 3 = s.fb[0].extractLsb' 0 3 →
    (∀ (k : Nat) (h : k < 14), k ∈ [1, 2, 3, 4, 5, 6, 7, 10] →
      s'.fb[k].extractLsb' 0 4 = s.fb[k].extractLsb' 0 4) →
    s'.fb[8].getLsbD 1 = s.fb[8].getLsbD 1 →
    s'.fb[9].extractLsb' 1 3 = s.fb[9].extractLsb' 1 3 →
    s'.fb[11].getLsbD 1 = s.fb[11].getLsbD 1 →
    ∃ t t', exec .dec s = .next t ∧ exec .dec s' = .next t' ∧ SameResults t t'

/-! ## Flags -/

/-- 10_state.md R31: FLAGS is set only by DEC, each flag a copy of its frame bit on an OK outcome (lowbat by LOWBAT_MASK);
it is 0 after any other outcome and after RST; NOP and PUSH leave it; every combination can occur (shown under ROM_DEFAULT,
whose percent and frequency tables are PRESUMED: log entry 8). -/
def Obligations.FlagsAreCopiesOfTheirFrameBits : Prop :=
  (∀ s : State, ∃ t, exec .dec s = .next t ∧
    (t.code ≠ 0#3 → t.flags = 0#13) ∧
    (t.code = 0#3 →
      t.flags.getLsbD 0 = s.fb[7].getLsbD 3 ∧ t.flags.getLsbD 1 = s.fb[7].getLsbD 2 ∧
      (s.config.lowbatMask = .bit1 → t.flags.getLsbD 2 = s.fb[7].getLsbD 1) ∧
      (s.config.lowbatMask = .bit3 → t.flags.getLsbD 2 = s.fb[7].getLsbD 3) ∧
      t.flags.getLsbD 3 = s.fb[7].getLsbD 0 ∧ t.flags.getLsbD 4 = s.fb[9].getLsbD 3 ∧
      t.flags.getLsbD 5 = s.fb[8].getLsbD 1 ∧ t.flags.getLsbD 6 = s.fb[9].getLsbD 2 ∧
      t.flags.getLsbD 7 = s.fb[9].getLsbD 1 ∧ t.flags.getLsbD 8 = s.fb[10].getLsbD 3 ∧
      t.flags.getLsbD 9 = s.fb[10].getLsbD 2 ∧ t.flags.getLsbD 10 = s.fb[10].getLsbD 1 ∧
      t.flags.getLsbD 11 = s.fb[10].getLsbD 0 ∧ t.flags.getLsbD 12 = s.fb[11].getLsbD 1)) ∧
  (∀ s : State, ∃ t, exec .rst s = .next t ∧ t.flags = 0#13) ∧
  (∀ s : State, ∃ t, exec .nop s = .next t ∧ t.flags = s.flags) ∧
  (∀ (s : State) (b : Byte), ∃ t, exec (.push b) s = .next t ∧ t.flags = s.flags) ∧
  (∀ v : BitVec 13, ∃ s t, s.config = configDefault ∧ exec .dec s = .next t ∧ t.code = 0#3 ∧ t.flags = v)

/-- 42_flag_extractor.md R143, the extraction: lowbat is BIT(7, LOWBAT_MASK) for both admitted values, and equals percent
under 0x08. -/
def Obligations.LowBatteryFollowsItsMask : Prop :=
  ∀ s : State, ∃ t, exec .dec s = .next t ∧
    (t.code = 0#3 →
      t.flags.getLsbD 2 = ((s.fb[7] &&& s.config.lowbatMask.mask) != 0#8) ∧
      (s.config.lowbatMask = .bit1 → s.config.lowbatMask.mask = 0x02#8) ∧
      (s.config.lowbatMask = .bit3 →
        s.config.lowbatMask.mask = 0x08#8 ∧ t.flags.getLsbD 2 = t.flags.getLsbD 0))

/-- 42_flag_extractor.md R156: MEAN = VALID and not overload and not underload, and neither flag alters CODE, VALID, FAIL,
EINFO or any result register but its own bit of FLAGS. -/
def Obligations.MeanTellsWhetherTheDigitsAreMeaningful : Prop :=
  (∀ s : State, ∃ t, exec .dec s = .next t ∧
    t.mean = (t.valid && !t.flags.getLsbD 3 && !t.flags.getLsbD 4)) ∧
  ∀ (f : FrameFields) (ol ul : Bool) (i i' : Instr) (s : State), i.fields = some f →
    i'.fields = some { f with ops := { f.ops with overload := ol, underload := ul } } →
    ∃ t t', exec i s = .next t ∧ exec i' s = .next t' ∧
      t'.code = t.code ∧ t'.valid = t.valid ∧ t'.fail = t.fail ∧ t'.einfo = t.einfo ∧ t'.msel = t.msel ∧
      t'.tpl = t.tpl ∧ t'.neg = t.neg ∧ t'.mag = t.mag ∧ t'.dexp = t.dexp ∧ t'.dunit = t.dunit ∧
      t'.nexp = t.nexp ∧ t'.nunit = t.nunit ∧
      ∀ k, k ≠ 3 → k ≠ 4 → t'.flags.getLsbD k = t.flags.getLsbD k

/-! ## Mode and range lookup -/

/-- 43_mode_range_lookup.md R185: (a) the percent bit selects the percent table, else the Hz bit the frequency table, else
the mode's own table; (b) UnsupportedModeError depends on the selector alone; (c) which failure there is, if any, depends
on selector, percent, hz and range index alone: the digits and the other flags neither cause nor prevent one. -/
def Obligations.OverridesSelectTheTable : Prop :=
  (∀ (s : State) (me : ModeEntry) (tid : BitVec 4) (tsel : BitVec 2), s.Validated →
    s.config.rom.mode s.selector = some me →
    (s.percentBit = true ∧ tid = s.config.rom.pctTid ∧ tsel = 1#2 ∨
     s.percentBit = false ∧ s.hzBit = true ∧ tid = s.config.rom.hzTid ∧ tsel = 2#2 ∨
     s.percentBit = false ∧ s.hzBit = false ∧ tid = me.tid ∧ tsel = 0#2) →
    ∃ t, exec .dec s = .next t ∧
      (s.config.rom.slot tid s.rangeIndex = none → t.code = 3#3 ∧ t.eTsel = tsel) ∧
      ∀ re, s.config.rom.slot tid s.rangeIndex = some re →
        t.code ≠ 3#3 ∧
        (t.code = 0#3 → t.msel = s.selector ∧ t.tpl = re.tpl ∧ t.dunit = re.unit ∧ t.dexp = re.sexp)) ∧
  (∀ s s' : State, s.Validated → s'.Validated → s'.config = s.config → s'.selector = s.selector →
    ∃ t t', exec .dec s = .next t ∧ exec .dec s' = .next t' ∧ (t.code = 2#3 ↔ t'.code = 2#3)) ∧
  (∀ s s' : State, s.Validated → s'.Validated → s'.config = s.config → s'.selector = s.selector →
    s'.percentBit = s.percentBit → s'.hzBit = s.hzBit → s'.rangeIndex = s.rangeIndex →
    ∃ t t', exec .dec s = .next t ∧ exec .dec s' = .next t' ∧ t'.code = t.code)

/-- 43_mode_range_lookup.md R184: a defined mode with no table of its own (table 0, empty by W1) fails for every range
index without an override, and with one the override's slot is used. -/
def Obligations.ModeWithoutTableNeedsAnOverride : Prop :=
  ∀ s : State, s.Validated → s.config.rom.W1 → s.config.rom.mode s.selector = some ⟨0#4⟩ →
    (s.percentBit = false → s.hzBit = false →
      exec .dec s = .next (s.withError 0x13#6 (0#2 ++ s.rangeIndex ++ s.selector))) ∧
    ∀ re ne,
      (s.percentBit = true ∧ s.config.rom.slot s.config.rom.pctTid s.rangeIndex = some re ∨
       s.percentBit = false ∧ s.hzBit = true ∧ s.config.rom.slot s.config.rom.hzTid s.rangeIndex = some re) →
      s.config.rom.norm re.unit = some ne →
      exec .dec s = .next (s.withOk s.selector s.percentBit s.hzBit s.operands re ne)

/-- 43_mode_range_lookup.md R162 to R177 under ROM_DEFAULT: for which range indexes each class measures; for the others
it reports UnsupportedRangeError. The image's slots are PRESUMED but for the pinned ones (log entry 8). -/
def Obligations.DefaultRomSlotsOfEachClass : Prop :=
  ∀ (s : State) (o : FrameOps) (hz : Bool), s.config = configDefault →
    ∀ (i : Instr) (good : Bool),
      (i, good) ∈
        [(.decA10 o, o.ridx == 0#3), (.decDiode o, o.ridx == 0#3), (.decFreq o, o.ridx != 2#3),
         (.decOhm o, o.ridx != 7#3), (.decTemp o, false), (.decCont o, o.ridx != 7#3), (.decCap o, true),
         (.decAman o, decide (o.ridx.toNat ≤ 4)), (.decV o, decide (o.ridx.toNat ≤ 4)),
         (.decUa o, decide (o.ridx.toNat ≤ 1)), (.decAdp o, false), (.decMa o, decide (o.ridx.toNat ≤ 1)),
         (.decA10Hz o, o.ridx != 2#3), (.decDiodeHz o, o.ridx != 2#3), (.decFreqHz o, o.ridx != 2#3),
         (.decOhmHz o, o.ridx != 2#3), (.decTempHz o, o.ridx != 2#3), (.decContHz o, o.ridx != 2#3),
         (.decCapHz o, o.ridx != 2#3), (.decAmanHz o, o.ridx != 2#3), (.decVHz o, o.ridx != 2#3),
         (.decUaHz o, o.ridx != 2#3), (.decAdpHz o, o.ridx != 2#3), (.decMaHz o, o.ridx != 2#3),
         (.decA10Pct hz o, true), (.decDiodePct hz o, true), (.decFreqPct hz o, true), (.decOhmPct hz o, true),
         (.decTempPct hz o, true), (.decContPct hz o, true), (.decCapPct hz o, true), (.decAmanPct hz o, true),
         (.decVPct hz o, true), (.decUaPct hz o, true), (.decAdpPct hz o, true), (.decMaPct hz o, true)] →
      ∃ t, exec i s = .next t ∧ t.code = if good then 0#3 else 3#3

/-! ## Value and normalisation -/

/-- 44_bcd_value_decoder.md R196, R197: the accumulator never overflows, at no intermediate digit; it is at most 166665, and
at most 99999 where every digit is at most 9. -/
def Obligations.AccumulatorNeverOverflows : Prop :=
  ∀ o : FrameOps,
    (∀ k : Nat,
      (((digits o).take k).foldl accStep 0#18).toNat =
          ((digits o).take k).foldl (fun a d => a * 10 + d.toNat) 0 ∧
      (((digits o).take k).foldl accStep 0#18).toNat ≤ 166665) ∧
    (accumulate o).toNat = magnitude o ∧
    ((∀ d ∈ digits o, d.toNat ≤ 9) → (accumulate o).toNat ≤ 99999)

/-- 44_bcd_value_decoder.md R202: on an OK outcome the displayed value is the digits as an integer times the slot's scale
factor, negated exactly where the minus bit is set. -/
def Obligations.DisplayedValueEquation : Prop :=
  ∀ (s : State) (me : ModeEntry) (re : RangeEntry), s.Validated →
    s.config.rom.mode s.selector = some me →
    s.config.rom.slot (tableId s.config.rom s.percentBit s.hzBit me) s.rangeIndex = some re →
    ∃ t, exec .dec s = .next t ∧
      (t.code = 0#3 →
        t.displayed =
          (if s.fb[7].getLsbD 2 then -1 else 1) * (magnitude s.operands : ℚ) * (10 : ℚ) ^ re.sexp.toInt)

/-- 44_bcd_value_decoder.md R200: NEG is the minus flag without exception; with all digits 0 and minus set NEG is 1, MAG is 0
and the number denoted is 0. -/
def Obligations.NegativeZeroIsKept : Prop :=
  ∀ s : State, ∃ t, exec .dec s = .next t ∧
    (t.code = 0#3 →
      t.neg = BitVec.ofBool (t.flags.getLsbD 1) ∧
      (s.fb[7].getLsbD 2 = true → magnitude s.operands = 0 →
        t.neg = 1#1 ∧ t.mag = 0#18 ∧ t.flags.getLsbD 1 = true ∧ t.displayed = 0 ∧ t.normalised = 0))

/-- 45_unit_normalizer.md R210, the value: the normalised value is the displayed value times the unit's multiplier, in the
canonical unit. -/
def Obligations.NormalisedValueIsTheScaledDisplayedValue : Prop :=
  ∀ s : State, ∃ t, exec .dec s = .next t ∧
    (t.code = 0#3 →
      ∃ ne, s.config.rom.norm t.dunit = some ne ∧ t.nunit = ne.canon ∧
        t.normalised = t.displayed * (10 : ℚ) ^ ne.exp.toInt)

/-- 45_unit_normalizer.md R211: normalising an already canonical pair returns it unchanged, and every unit DEC reports as
normalised is canonical. -/
def Obligations.NormalisationIsIdempotent : Prop :=
  (∀ rom : Rom, rom.W3 → ∀ (u : BitVec 5) (n : NormEntry), rom.norm u = some n →
    ∀ (tsel : TableSel) (msel : BitVec 4) (ridx : BitVec 3) (e : BitVec 4),
      normalise rom tsel msel ridx e n.canon = .ok (e.signExtend 6, n.canon)) ∧
  ∀ s : State, s.config.rom.W3 → ∃ t, exec .dec s = .next t ∧
    (t.code = 0#3 → s.config.rom.norm t.nunit = some ⟨0#5, t.nunit⟩)

/-- 45_unit_normalizer.md R212: InternalInvariantError cannot occur under an admissible image, ROM_DEFAULT is admissible,
and the error is reachable under an image that violates W2. ROM_DEFAULT's entries are PRESUMED but for the pinned ones (log
entry 8). -/
def Obligations.InternalErrorNeedsAnInadmissibleRom : Prop :=
  (∀ s : State, s.config.rom.Admissible → ∃ t, exec .dec s = .next t ∧ t.code ≠ 4#3) ∧
  romDefault.Admissible ∧
  ∃ s t, ¬ s.config.rom.W2 ∧ exec .dec s = .next t ∧ t.code = 4#3

/-- 45_unit_normalizer.md R213: the normalised exponent is the exact sum, in -24 to 22 for every image; under ROM_DEFAULT
the displayed exponent is in -4 to 0 and the normalised one in -12 to 4, and both ends occur (its entries are PRESUMED but
for the pinned ones: log entry 8). -/
def Obligations.NormalisedExponentRange : Prop :=
  (∀ s : State, ∃ t, exec .dec s = .next t ∧
    (t.code = 0#3 →
      (∃ ne, s.config.rom.norm t.dunit = some ne ∧ t.nexp.toInt = t.dexp.toInt + ne.exp.toInt) ∧
      -24 ≤ t.nexp.toInt ∧ t.nexp.toInt ≤ 22 ∧
      (s.config = configDefault →
        -4 ≤ t.dexp.toInt ∧ t.dexp.toInt ≤ 0 ∧ -12 ≤ t.nexp.toInt ∧ t.nexp.toInt ≤ 4))) ∧
  (∃ s t, s.config = configDefault ∧ exec .dec s = .next t ∧ t.code = 0#3 ∧ t.nexp.toInt = -12) ∧
  (∃ s t, s.config = configDefault ∧ exec .dec s = .next t ∧ t.code = 0#3 ∧ t.nexp.toInt = 4)

/-- 20_memory.md R74 under ROM_DEFAULT: the displayed value has its template's precision. The digits after the point of
the templates 0 to 7 are 4, 3, 2, 1, 0, 1, 3, 1. The image's entries are PRESUMED but for the pinned ones (log entry 8). -/
def Obligations.DisplayedPrecisionIsTheTemplates : Prop :=
  ∀ s : State, s.config = configDefault → ∃ t, exec .dec s = .next t ∧
    (t.code = 0#3 →
      t.dexp.toInt = -((#v[4, 3, 2, 1, 0, 1, 3, 1] : Vector Int 8)[t.tpl.toNat]'t.tpl.isLt))

/-! ## The frame classes, one by one -/

/-- 43_mode_range_lookup.md R162 to R177, the plain forms: the measurement of the mode's own table. -/
def Obligations.OwnTableClassesMeasure : Prop :=
  ∀ (s : State) (o : FrameOps) (i : Instr) (m : BitVec 4) (me : ModeEntry) (re : RangeEntry) (ne : NormEntry),
    (i, m) ∈
      [(.decA10 o, 0x0#4), (.decDiode o, 0x1#4), (.decFreq o, 0x2#4), (.decOhm o, 0x3#4), (.decTemp o, 0x4#4),
       (.decCont o, 0x5#4), (.decCap o, 0x6#4), (.decAman o, 0x9#4), (.decV o, 0xB#4), (.decUa o, 0xD#4),
       (.decAdp o, 0xE#4), (.decMa o, 0xF#4)] →
    s.config.rom.mode m = some me → s.config.rom.slot me.tid o.ridx = some re →
    s.config.rom.norm re.unit = some ne →
    exec i s = .next (s.withOk m false false o re ne)

/-- 43_mode_range_lookup.md R162 to R177, the .HZ forms: the measurement of the frequency table, the mode the frame's
own. -/
def Obligations.FrequencyClassesMeasure : Prop :=
  ∀ (s : State) (o : FrameOps) (i : Instr) (m : BitVec 4) (me : ModeEntry) (re : RangeEntry) (ne : NormEntry),
    (i, m) ∈
      [(.decA10Hz o, 0x0#4), (.decDiodeHz o, 0x1#4), (.decFreqHz o, 0x2#4), (.decOhmHz o, 0x3#4),
       (.decTempHz o, 0x4#4), (.decContHz o, 0x5#4), (.decCapHz o, 0x6#4), (.decAmanHz o, 0x9#4),
       (.decVHz o, 0xB#4), (.decUaHz o, 0xD#4), (.decAdpHz o, 0xE#4), (.decMaHz o, 0xF#4)] →
    s.config.rom.mode m = some me → s.config.rom.slot s.config.rom.hzTid o.ridx = some re →
    s.config.rom.norm re.unit = some ne →
    exec i s = .next (s.withOk m false true o re ne)

/-- 43_mode_range_lookup.md R162 to R177, the .PCT forms: the measurement of the percent table, whatever hz is. -/
def Obligations.PercentClassesMeasure : Prop :=
  ∀ (s : State) (o : FrameOps) (hz : Bool) (i : Instr) (m : BitVec 4) (me : ModeEntry) (re : RangeEntry)
    (ne : NormEntry),
    (i, m) ∈
      [(.decA10Pct hz o, 0x0#4), (.decDiodePct hz o, 0x1#4), (.decFreqPct hz o, 0x2#4), (.decOhmPct hz o, 0x3#4),
       (.decTempPct hz o, 0x4#4), (.decContPct hz o, 0x5#4), (.decCapPct hz o, 0x6#4), (.decAmanPct hz o, 0x9#4),
       (.decVPct hz o, 0xB#4), (.decUaPct hz o, 0xD#4), (.decAdpPct hz o, 0xE#4), (.decMaPct hz o, 0xF#4)] →
    s.config.rom.mode m = some me → s.config.rom.slot s.config.rom.pctTid o.ridx = some re →
    s.config.rom.norm re.unit = some ne →
    exec i s = .next (s.withOk m true hz o re ne)

/-- 43_mode_range_lookup.md R169, R170, R172, R174: the classes of the selectors ROM_DEFAULT leaves undefined report
UnsupportedModeError with E_SEL the selector, whatever the frame holds. -/
def Obligations.ReservedClassesReportUnsupportedMode : Prop :=
  ∀ (s : State) (o : FrameOps) (percent hz : Bool) (i : Instr) (m : BitVec 4),
    (i, m) ∈
      [(.decRsvd7 percent hz o, 0x7#4), (.decRsvd8 percent hz o, 0x8#4), (.decRsvd10 percent hz o, 0xA#4),
       (.decRsvd12 percent hz o, 0xC#4)] →
    i.wf s.config.rom = true →
    exec i s = .next (s.withError 0x12#6 (m.zeroExtend 9))

/-- 43_mode_range_lookup.md R166, R176, R184: DEC.TEMP and DEC.ADP, under an image that gives their modes no table of
their own, always report UnsupportedRangeError. -/
def Obligations.TablelessClassesReportUnsupportedRange : Prop :=
  ∀ (s : State) (o : FrameOps) (i : Instr) (m : BitVec 4),
    (i, m) ∈ [(.decTemp o, 0x4#4), (.decAdp o, 0xE#4)] →
    s.config.rom.W1 → s.config.rom.mode m = some ⟨0#4⟩ →
    exec i s = .next (s.withError 0x13#6 (0#2 ++ o.ridx ++ m))

/-- 60_exceptions.md R233 to R238 for the frame classes: a class takes the first error condition its fields meet. It covers
the classes an image does not have too, a mode's class of an undefined selector and a RSVD class of a defined one: what
those do is DEDUCED (log entry 4). -/
def Obligations.FrameClassesTakeTheFirstCondition : Prop :=
  ∀ (s : State) (i : Instr) (f : FrameFields), i.fields = some f →
    (s.config.rom.mode f.msel = none → exec i s = .next (s.withError 0x12#6 (f.msel.zeroExtend 9))) ∧
    ∀ me, s.config.rom.mode f.msel = some me →
      (s.config.rom.slot (tableId s.config.rom f.percent f.hz me) f.ops.ridx = none →
        exec i s = .next (s.withError 0x13#6 (tableSelCode f.percent f.hz ++ f.ops.ridx ++ f.msel))) ∧
      ∀ re, s.config.rom.slot (tableId s.config.rom f.percent f.hz me) f.ops.ridx = some re →
        s.config.rom.norm re.unit = none →
        exec i s = .next (s.withError 0x14#6 (tableSelCode f.percent f.hz ++ f.ops.ridx ++ f.msel))

/-- 20_memory.md R61 (W4), R63 and 43_mode_range_lookup.md R173: the pinned voltage entry, for every admissible image. -/
def Obligations.PinnedVoltageRange : Prop :=
  ∀ (s : State) (o : FrameOps), s.config.rom.Admissible → o.ridx = 0#3 →
    ∃ t, exec (.decV o) s = .next t ∧
      t.code = 0#3 ∧ t.msel = 0xB#4 ∧ t.tpl = 0#3 ∧ t.dunit = 0#5 ∧ t.nunit = 0#5 ∧
      t.displayed = (if o.minus then -1 else 1) * (magnitude o : ℚ) / 10000 ∧ t.normalised = t.displayed

/-- 20_memory.md R61 (W4), R64 and 43_mode_range_lookup.md R175: the pinned micro-amp entry, for every admissible image. -/
def Obligations.PinnedMicroampRange : Prop :=
  ∀ (s : State) (o : FrameOps), s.config.rom.Admissible → o.ridx = 1#3 →
    ∃ t, exec (.decUa o) s = .next t ∧
      t.code = 0#3 ∧ t.msel = 0xD#4 ∧ t.dunit = 4#5 ∧ t.nunit = 2#5 ∧
      t.displayed = (if o.minus then -1 else 1) * (magnitude o : ℚ) / 10 ∧
      t.normalised = t.displayed / 1000000

/-! ## Invariants -/

/-- 10_state.md R37, R35: the reset state meets the invariant of the result registers. -/
def Obligations.ResetStateIsConsistent : Prop :=
  State.reset.Inv

/-- 10_state.md R37: every step keeps the invariant of the result registers, from every state that meets it. -/
def Obligations.StepKeepsTheResultsConsistent : Prop :=
  ∀ s t : State, s.Inv → step s = .next t → t.Inv

/-- 60_exceptions.md R241: after a DEC, whatever its outcome, LEN is 0 and the next 14 PUSH and DEC decode normally: the
later result is that of a fresh decode of the frame and owes nothing to the earlier one. That the class is named by the
default table under every image is DEDUCED (log entry 4). -/
def Obligations.NoErrorIsSticky : Prop :=
  ∀ (s : State) (hi : BitVec 4) (f : FrameFields) (i : Instr), i.fields = some f →
    ∃ t u u', exec .dec s = .next t ∧ t.len = 0#4 ∧ execAll (send hi f) t = .next u ∧
      exec i { State.reset with config := s.config } = .next u' ∧ SameResults u u' ∧ u.len = 0#4

/-! ## Reserved unit codes -/

/-- 30_encoding.md R101 (h), 93_implementation_defined.md U11: under every image, whatever it holds at NORMROM 16 to 31, a
selected slot that carries a unit code 16 to 31 is InternalInvariantError, for DEC and for the frame class; an admissible
image has no such slot, and none is reported as a normalised unit. That such a code has no entry in any image is DEDUCED
(log entry 14). The clause on frame classes covers a RSVD class of a selector the image defines too: what that does is
DEDUCED (log entry 4). -/
def Obligations.ReservedUnitCodesAreInternalErrors : Prop :=
  (∀ (s : State) (me : ModeEntry) (re : RangeEntry), s.Validated → 16 ≤ re.unit.toNat →
    s.config.rom.mode s.selector = some me →
    s.config.rom.slot (tableId s.config.rom s.percentBit s.hzBit me) s.rangeIndex = some re →
    exec .dec s = .next
      (s.withError 0x14#6 (tableSelCode s.percentBit s.hzBit ++ s.rangeIndex ++ s.selector))) ∧
  (∀ (s : State) (i : Instr) (f : FrameFields) (me : ModeEntry) (re : RangeEntry), i.fields = some f →
    16 ≤ re.unit.toNat → s.config.rom.mode f.msel = some me →
    s.config.rom.slot (tableId s.config.rom f.percent f.hz me) f.ops.ridx = some re →
    exec i s = .next (s.withError 0x14#6 (tableSelCode f.percent f.hz ++ f.ops.ridx ++ f.msel))) ∧
  (∀ rom : Rom, rom.Admissible → ∀ (t : BitVec 4) (r : BitVec 3) (re : RangeEntry), rom.slot t r = some re →
    re.unit.toNat < 16) ∧
  ∀ s : State, s.config.rom.W3 → ∃ t, exec .dec s = .next t ∧ (t.code = 0#3 → t.dunit.toNat < 16 ∧ t.nunit.toNat < 16)
end

