-- ==== Sys2Proof/Laws/Decode.lean ====
section
/-! SUPPORT. What the decoder's and encoder's field operations do, each said once. -/

namespace Sys2Proof

/-! ## Bytes built from an upper nibble and a field -/

@[simp] theorem nibOf_append (hi d : BitVec 4) : nibOf (hi ++ d) = d := by
  revert hi d; decide

@[simp] theorem ridxOf_append (hi : BitVec 4) (r : BitVec 3) : ridxOf (hi ++ ridxNibble r) = r := by
  revert hi r; decide

@[simp] theorem bitOf_append_flagNibble (hi : BitVec 4) (b3 b2 b1 b0 : Bool) :
    bitOf (hi ++ flagNibble b3 b2 b1 b0) 0x08#8 = b3 ∧ bitOf (hi ++ flagNibble b3 b2 b1 b0) 0x04#8 = b2 ∧
    bitOf (hi ++ flagNibble b3 b2 b1 b0) 0x02#8 = b1 ∧ bitOf (hi ++ flagNibble b3 b2 b1 b0) 0x01#8 = b0 := by
  revert hi; cases b3 <;> cases b2 <;> cases b1 <;> cases b0 <;> decide

/-- A one-bit mask reads one bit of the byte (00_scope.md R7). -/
theorem bitOf_masks (b : Byte) :
    bitOf b 0x08#8 = b.getLsbD 3 ∧ bitOf b 0x04#8 = b.getLsbD 2 ∧
    bitOf b 0x02#8 = b.getLsbD 1 ∧ bitOf b 0x01#8 = b.getLsbD 0 := by
  revert b; decide

/-! ## The assembled frame -/

theorem terminated_assemble (hi : BitVec 4) (f : FrameFields) : terminated (assemble hi f) = true :=
  rfl

/-- The fields of an assembled frame are the fields it was assembled from, whatever the upper nibbles. -/
@[simp] theorem frameFields_assemble (hi : BitVec 4) (f : FrameFields) :
    frameFields (assemble hi f) = f := by
  simp [frameFields, frameOps, assemble]

theorem assemble_msel (hi : BitVec 4) (f : FrameFields) : nibOf (assemble hi f)[6] = f.msel :=
  congrArg FrameFields.msel (frameFields_assemble hi f)

/-! ## Classes and fields -/

/-- The class of a frame's fields has exactly those fields. -/
theorem fields_classOf (f : FrameFields) : (classOf f).fields = some f := by
  obtain ⟨m, p, h, o⟩ := f
  have all : m = 0 ∨ m = 1 ∨ m = 2 ∨ m = 3 ∨ m = 4 ∨ m = 5 ∨ m = 6 ∨ m = 7 ∨ m = 8 ∨ m = 9 ∨ m = 10 ∨
      m = 11 ∨ m = 12 ∨ m = 13 ∨ m = 14 ∨ m = 15 := by revert m; decide
  rcases all with rfl | rfl | rfl | rfl | rfl | rfl | rfl | rfl | rfl | rfl | rfl | rfl | rfl | rfl | rfl | rfl <;>
    cases p <;> cases h <;> rfl

/-- An instruction with fields is the class of its fields. -/
theorem classOf_fields {i : Instr} {f : FrameFields} (h : i.fields = some f) : classOf f = i := by
  cases i <;> simp only [Instr.fields, Option.some.injEq, reduceCtorEq] at h <;> subst h <;> rfl

/-! ## Decoding bytes -/

@[simp] theorem frameOfList_toList (fb : FrameBytes) : frameOfList fb.toList = some fb := by
  have h : fb.toList.length = 14 := by simp
  rw [frameOfList, dif_pos h]
  rfl

theorem frameOfList_of_length_ne {bytes : List Byte} (h : bytes.length ≠ 14) : frameOfList bytes = none := by
  simp [frameOfList, h]

/-- Decoding the 14 bytes of a frame: its class where it is terminated, else rejected by its last two bytes. -/
theorem decodeFrame_toList (fb : FrameBytes) :
    decodeFrame fb.toList =
      if terminated fb then .ok (classOf (frameFields fb)) else .error (.frameTerminator fb[12] fb[13]) := by
  simp [decodeFrame]

theorem terminated_iff (fb : FrameBytes) : terminated fb = true ↔ fb[12] = 0x0D#8 ∧ fb[13] = 0x0A#8 := by
  simp [terminated]

theorem encode_of_fields {i : Instr} {f : FrameFields} (h : i.fields = some f) :
    encode i = .frame (assemble 0#4 f).toList := by
  simp [encode, h]

/-! ## Frame words and table rows -/

theorem append_inj {n m : Nat} (a c : BitVec n) (b d : BitVec m) : a ++ b = c ++ d ↔ a = c ∧ b = d := by
  refine ⟨fun h => ?_, fun ⟨ha, hb⟩ => by rw [ha, hb]⟩
  have bits := fun i => congrArg (BitVec.getLsbD · i) h
  simp only [BitVec.getLsbD_append] at bits
  exact ⟨BitVec.eq_of_getLsbD_eq fun i _ => by simpa using bits (m + i),
    BitVec.eq_of_getLsbD_eq fun i hi => by simpa [hi] using bits i⟩

/-- Fourteen bytes under a mask, byte by byte; the widths are left as the sum that `++` gives. -/
theorem bytes_and_eq (w m p : FrameBytes) :
    ((w[0] ++ w[1] ++ w[2] ++ w[3] ++ w[4] ++ w[5] ++ w[6] ++ w[7] ++ w[8] ++ w[9] ++
      w[10] ++ w[11] ++ w[12] ++ w[13]) &&&
      (m[0] ++ m[1] ++ m[2] ++ m[3] ++ m[4] ++ m[5] ++ m[6] ++ m[7] ++ m[8] ++ m[9] ++
      m[10] ++ m[11] ++ m[12] ++ m[13]) =
      (p[0] ++ p[1] ++ p[2] ++ p[3] ++ p[4] ++ p[5] ++ p[6] ++ p[7] ++ p[8] ++ p[9] ++
      p[10] ++ p[11] ++ p[12] ++ p[13])) ↔
    ∀ k : Fin 14, w[k] &&& m[k] = p[k] := by
  simp only [BitVec.and_append, append_inj, Fin.forall_fin_succ]
  simp [and_assoc]

/-- A frame word under a mask, byte by byte (00_scope.md R8). -/
theorem frameWord_and_eq (w m p : FrameBytes) :
    frameWord w &&& frameWord m = frameWord p ↔ ∀ k : Fin 14, w[k] &&& m[k] = p[k] :=
  bytes_and_eq w m p

/-- A frame fits a row when each byte under the row's mask is the row's pattern. -/
theorem fits_frameWord_iff {r : OpRow 112} {m p : FrameBytes} (hm : r.mask = frameWord m)
    (hp : r.pattern = frameWord p) (w : FrameBytes) :
    r.fits (frameWord w) = true ↔ ∀ k : Fin 14, w[k] &&& m[k] = p[k] := by
  simp [OpRow.fits, hm, hp, frameWord_and_eq]

/-! ## Command words -/

/-- A command word by its op bits (30_encoding.md R91). -/
theorem decodeCmd_append (data : Byte) :
    decodeCmd (0b00#2 ++ data) = .nop ∧ decodeCmd (0b01#2 ++ data) = .push data ∧
    decodeCmd (0b10#2 ++ data) = .dec ∧ decodeCmd (0b11#2 ++ data) = .rst := by
  revert data; decide

/-- Every command word is an op and a data byte. -/
theorem cmdWord_split (w : CmdWord) : ∃ (op : BitVec 2) (data : Byte), w = op ++ data :=
  ⟨w.extractLsb' 8 2, w.extractLsb' 0 8, by
    rw [BitVec.extractLsb'_append_extractLsb'_eq_extractLsb' (by rfl)]; simp⟩

theorem push_word_fits (b : Byte) : OpRow.fits ⟨"PUSH", 0x100#10, 0x300#10⟩ (0b01#2 ++ b) = true := by
  revert b; decide

end Sys2Proof
end

