-- ==== Sys2Proof/Laws/State.lean ====
section
/-! SUPPORT. Each field of the state after each named update, so that no proof unfolds a record update. -/

namespace Sys2Proof.Machine

variable (s : State)

/-! ## The frame-buffer write -/

@[simp] theorem State.writeFb_fb (i : Fin 14) (v : BitVec 8) : (s.writeFb i v).fb = s.fb.set i v := rfl
@[simp] theorem State.writeFb_len (i : Fin 14) (v : BitVec 8) : (s.writeFb i v).len = s.len := rfl
@[simp] theorem State.writeFb_status (i : Fin 14) (v : BitVec 8) : (s.writeFb i v).status = s.status := rfl
@[simp] theorem State.writeFb_einfo (i : Fin 14) (v : BitVec 8) : (s.writeFb i v).einfo = s.einfo := rfl
@[simp] theorem State.writeFb_msel (i : Fin 14) (v : BitVec 8) : (s.writeFb i v).msel = s.msel := rfl
@[simp] theorem State.writeFb_tpl (i : Fin 14) (v : BitVec 8) : (s.writeFb i v).tpl = s.tpl := rfl
@[simp] theorem State.writeFb_neg (i : Fin 14) (v : BitVec 8) : (s.writeFb i v).neg = s.neg := rfl
@[simp] theorem State.writeFb_mag (i : Fin 14) (v : BitVec 8) : (s.writeFb i v).mag = s.mag := rfl
@[simp] theorem State.writeFb_dexp (i : Fin 14) (v : BitVec 8) : (s.writeFb i v).dexp = s.dexp := rfl
@[simp] theorem State.writeFb_dunit (i : Fin 14) (v : BitVec 8) : (s.writeFb i v).dunit = s.dunit := rfl
@[simp] theorem State.writeFb_nexp (i : Fin 14) (v : BitVec 8) : (s.writeFb i v).nexp = s.nexp := rfl
@[simp] theorem State.writeFb_nunit (i : Fin 14) (v : BitVec 8) : (s.writeFb i v).nunit = s.nunit := rfl
@[simp] theorem State.writeFb_flags (i : Fin 14) (v : BitVec 8) : (s.writeFb i v).flags = s.flags := rfl
@[simp] theorem State.writeFb_config (i : Fin 14) (v : BitVec 8) : (s.writeFb i v).config = s.config := rfl
@[simp] theorem State.writeFb_port (i : Fin 14) (v : BitVec 8) : (s.writeFb i v).port = s.port := rfl

/-! ## The write of LEN -/

@[simp] theorem State.setLen_fb (n : BitVec 4) : (s.setLen n).fb = s.fb := rfl
@[simp] theorem State.setLen_len (n : BitVec 4) : (s.setLen n).len = n := rfl
@[simp] theorem State.setLen_status (n : BitVec 4) : (s.setLen n).status = s.status := rfl
@[simp] theorem State.setLen_einfo (n : BitVec 4) : (s.setLen n).einfo = s.einfo := rfl
@[simp] theorem State.setLen_msel (n : BitVec 4) : (s.setLen n).msel = s.msel := rfl
@[simp] theorem State.setLen_tpl (n : BitVec 4) : (s.setLen n).tpl = s.tpl := rfl
@[simp] theorem State.setLen_neg (n : BitVec 4) : (s.setLen n).neg = s.neg := rfl
@[simp] theorem State.setLen_mag (n : BitVec 4) : (s.setLen n).mag = s.mag := rfl
@[simp] theorem State.setLen_dexp (n : BitVec 4) : (s.setLen n).dexp = s.dexp := rfl
@[simp] theorem State.setLen_dunit (n : BitVec 4) : (s.setLen n).dunit = s.dunit := rfl
@[simp] theorem State.setLen_nexp (n : BitVec 4) : (s.setLen n).nexp = s.nexp := rfl
@[simp] theorem State.setLen_nunit (n : BitVec 4) : (s.setLen n).nunit = s.nunit := rfl
@[simp] theorem State.setLen_flags (n : BitVec 4) : (s.setLen n).flags = s.flags := rfl
@[simp] theorem State.setLen_config (n : BitVec 4) : (s.setLen n).config = s.config := rfl
@[simp] theorem State.setLen_port (n : BitVec 4) : (s.setLen n).port = s.port := rfl

/-! ## Taking the command at the port -/

@[simp] theorem State.popPort_fb : s.popPort.fb = s.fb := rfl
@[simp] theorem State.popPort_len : s.popPort.len = s.len := rfl
@[simp] theorem State.popPort_status : s.popPort.status = s.status := rfl
@[simp] theorem State.popPort_einfo : s.popPort.einfo = s.einfo := rfl
@[simp] theorem State.popPort_msel : s.popPort.msel = s.msel := rfl
@[simp] theorem State.popPort_tpl : s.popPort.tpl = s.tpl := rfl
@[simp] theorem State.popPort_neg : s.popPort.neg = s.neg := rfl
@[simp] theorem State.popPort_mag : s.popPort.mag = s.mag := rfl
@[simp] theorem State.popPort_dexp : s.popPort.dexp = s.dexp := rfl
@[simp] theorem State.popPort_dunit : s.popPort.dunit = s.dunit := rfl
@[simp] theorem State.popPort_nexp : s.popPort.nexp = s.nexp := rfl
@[simp] theorem State.popPort_nunit : s.popPort.nunit = s.nunit := rfl
@[simp] theorem State.popPort_flags : s.popPort.flags = s.flags := rfl
@[simp] theorem State.popPort_config : s.popPort.config = s.config := rfl
@[simp] theorem State.popPort_port : s.popPort.port = s.port.tail := rfl

/-! ## Clearing the result registers -/

@[simp] theorem State.clearResults_fb : s.clearResults.fb = s.fb := rfl
@[simp] theorem State.clearResults_len : s.clearResults.len = s.len := rfl
@[simp] theorem State.clearResults_status : s.clearResults.status = s.status := rfl
@[simp] theorem State.clearResults_einfo : s.clearResults.einfo = s.einfo := rfl
@[simp] theorem State.clearResults_msel : s.clearResults.msel = 0#4 := rfl
@[simp] theorem State.clearResults_tpl : s.clearResults.tpl = 0#3 := rfl
@[simp] theorem State.clearResults_neg : s.clearResults.neg = 0#1 := rfl
@[simp] theorem State.clearResults_mag : s.clearResults.mag = 0#18 := rfl
@[simp] theorem State.clearResults_dexp : s.clearResults.dexp = 0#4 := rfl
@[simp] theorem State.clearResults_dunit : s.clearResults.dunit = 0#5 := rfl
@[simp] theorem State.clearResults_nexp : s.clearResults.nexp = 0#6 := rfl
@[simp] theorem State.clearResults_nunit : s.clearResults.nunit = 0#5 := rfl
@[simp] theorem State.clearResults_flags : s.clearResults.flags = 0#13 := rfl
@[simp] theorem State.clearResults_config : s.clearResults.config = s.config := rfl
@[simp] theorem State.clearResults_port : s.clearResults.port = s.port := rfl

/-! ## Taking an error condition -/

@[simp] theorem State.raise_fb (e : DecError) : (s.raise e).fb = s.fb := rfl
@[simp] theorem State.raise_len (e : DecError) : (s.raise e).len = s.len := rfl
@[simp] theorem State.raise_status (e : DecError) : (s.raise e).status = statusWord e.code false e.isFail false := rfl
@[simp] theorem State.raise_einfo (e : DecError) : (s.raise e).einfo = e.info := rfl
@[simp] theorem State.raise_msel (e : DecError) : (s.raise e).msel = 0#4 := rfl
@[simp] theorem State.raise_tpl (e : DecError) : (s.raise e).tpl = 0#3 := rfl
@[simp] theorem State.raise_neg (e : DecError) : (s.raise e).neg = 0#1 := rfl
@[simp] theorem State.raise_mag (e : DecError) : (s.raise e).mag = 0#18 := rfl
@[simp] theorem State.raise_dexp (e : DecError) : (s.raise e).dexp = 0#4 := rfl
@[simp] theorem State.raise_dunit (e : DecError) : (s.raise e).dunit = 0#5 := rfl
@[simp] theorem State.raise_nexp (e : DecError) : (s.raise e).nexp = 0#6 := rfl
@[simp] theorem State.raise_nunit (e : DecError) : (s.raise e).nunit = 0#5 := rfl
@[simp] theorem State.raise_flags (e : DecError) : (s.raise e).flags = 0#13 := rfl
@[simp] theorem State.raise_config (e : DecError) : (s.raise e).config = s.config := rfl
@[simp] theorem State.raise_port (e : DecError) : (s.raise e).port = s.port := rfl

/-! ## RST -/

@[simp] theorem State.rst_fb : s.rst.fb = Vector.replicate 14 0x00#8 := rfl
@[simp] theorem State.rst_len : s.rst.len = 0#4 := rfl
@[simp] theorem State.rst_status : s.rst.status = 7#6 := rfl
@[simp] theorem State.rst_einfo : s.rst.einfo = 0#9 := rfl
@[simp] theorem State.rst_msel : s.rst.msel = 0#4 := rfl
@[simp] theorem State.rst_tpl : s.rst.tpl = 0#3 := rfl
@[simp] theorem State.rst_neg : s.rst.neg = 0#1 := rfl
@[simp] theorem State.rst_mag : s.rst.mag = 0#18 := rfl
@[simp] theorem State.rst_dexp : s.rst.dexp = 0#4 := rfl
@[simp] theorem State.rst_dunit : s.rst.dunit = 0#5 := rfl
@[simp] theorem State.rst_nexp : s.rst.nexp = 0#6 := rfl
@[simp] theorem State.rst_nunit : s.rst.nunit = 0#5 := rfl
@[simp] theorem State.rst_flags : s.rst.flags = 0#13 := rfl
@[simp] theorem State.rst_config : s.rst.config = s.config := rfl
@[simp] theorem State.rst_port : s.rst.port = s.port := rfl

/-! ## Writing a measurement -/

@[simp] theorem State.assemble_fb (m : Measurement) : (s.assemble m).fb = s.fb := rfl
@[simp] theorem State.assemble_len (m : Measurement) : (s.assemble m).len = s.len := rfl
@[simp] theorem State.assemble_status (m : Measurement) : (s.assemble m).status = statusWord 0#3 true false m.flags.mean := rfl
@[simp] theorem State.assemble_einfo (m : Measurement) : (s.assemble m).einfo = 0#9 := rfl
@[simp] theorem State.assemble_msel (m : Measurement) : (s.assemble m).msel = m.msel := rfl
@[simp] theorem State.assemble_tpl (m : Measurement) : (s.assemble m).tpl = m.tpl := rfl
@[simp] theorem State.assemble_neg (m : Measurement) : (s.assemble m).neg = BitVec.ofBool m.neg := rfl
@[simp] theorem State.assemble_mag (m : Measurement) : (s.assemble m).mag = m.mag := rfl
@[simp] theorem State.assemble_dexp (m : Measurement) : (s.assemble m).dexp = m.dexp := rfl
@[simp] theorem State.assemble_dunit (m : Measurement) : (s.assemble m).dunit = m.dunit := rfl
@[simp] theorem State.assemble_nexp (m : Measurement) : (s.assemble m).nexp = m.nexp := rfl
@[simp] theorem State.assemble_nunit (m : Measurement) : (s.assemble m).nunit = m.nunit := rfl
@[simp] theorem State.assemble_flags (m : Measurement) : (s.assemble m).flags = m.flags.word := rfl
@[simp] theorem State.assemble_config (m : Measurement) : (s.assemble m).config = s.config := rfl
@[simp] theorem State.assemble_port (m : Measurement) : (s.assemble m).port = s.port := rfl

end Sys2Proof.Machine
end

