-- ==== Sys2Proof/Laws/Pipeline.lean ====
section
/-! SUPPORT. What the stages of DEC and the shared operations do, each said once; the proofs cite these and do not unfold
the pipeline. -/

namespace Sys2Proof.Machine

/-! ## Words built from fields -/

/-- The fields of the STATUS word are the fields it was built from (10_state.md R25). -/
theorem statusWord_fields (c : BitVec 3) (v f m : Bool) :
    (statusWord c v f m).extractLsb' 0 3 = c ∧ (statusWord c v f m).getLsbD 3 = v ∧
    (statusWord c v f m).getLsbD 4 = f ∧ (statusWord c v f m).getLsbD 5 = m := by
  revert c v f m; decide

/-- The fields of the EINFO word are the fields it was built from (10_state.md R26). -/
theorem einfoWord_fields (t : BitVec 2) (r : BitVec 3) (m : BitVec 4) :
    (einfoWord t r m).extractLsb' 0 4 = m ∧ (einfoWord t r m).extractLsb' 4 3 = r ∧
    (einfoWord t r m).extractLsb' 7 2 = t := by
  revert t r m; decide

/-- EINFO with E_SEL alone. -/
theorem einfoWord_sel (m : BitVec 4) : einfoWord 0#2 0#3 m = m.zeroExtend 9 := by
  revert m; decide

/-- Appending a bit doubles the number and adds the bit. -/
theorem toNat_append_ofBool {n : Nat} (x : BitVec n) (b : Bool) :
    (x ++ BitVec.ofBool b).toNat = 2 * x.toNat + b.toNat := by
  rw [BitVec.toNat_append, ← Nat.shiftLeft_add_eq_or_of_lt (by cases b <;> decide)]
  cases b <;> simp [Nat.shiftLeft_eq] <;> omega

theorem getLsbD_append_ofBool {n : Nat} (x : BitVec n) (b : Bool) (k : Nat) :
    (x ++ BitVec.ofBool b).getLsbD 0 = b ∧ (x ++ BitVec.ofBool b).getLsbD (k + 1) = x.getLsbD k := by
  constructor
  · rw [BitVec.getLsbD_append]; simp
  · rw [BitVec.getLsbD_append]; simp

/-- Each bit of the FLAGS word is its flag (10_state.md R31). -/
theorem Flags.word_bits (f : Flags) :
    f.word.getLsbD 0 = f.percent ∧ f.word.getLsbD 1 = f.minus ∧ f.word.getLsbD 2 = f.lowbat ∧
    f.word.getLsbD 3 = f.overload ∧ f.word.getLsbD 4 = f.underload ∧ f.word.getLsbD 5 = f.rel ∧
    f.word.getLsbD 6 = f.max ∧ f.word.getLsbD 7 = f.min ∧ f.word.getLsbD 8 = f.dc ∧
    f.word.getLsbD 9 = f.ac ∧ f.word.getLsbD 10 = f.auto ∧ f.word.getLsbD 11 = f.hz ∧
    f.word.getLsbD 12 = f.hold := by
  simp only [Flags.word, (getLsbD_append_ofBool _ _ 0).1, (getLsbD_append_ofBool _ _ _).2]
  simp

/-- The FLAGS word as a number (10_state.md R31). -/
theorem Flags.word_eq (mask : LowbatMask) (f : FrameFields) :
    (extractFlags mask f).word =
      BitVec.ofNat 13 (flagsNumber f.percent (lowbatFlag mask f) f.hz f.ops) := by
  apply BitVec.eq_of_toNat_eq
  have low : flagsNumber f.percent (lowbatFlag mask f) f.hz f.ops < 2 ^ 13 := by
    have b (x : Bool) : x.toNat ≤ 1 := by cases x <;> decide
    simp only [flagsNumber]
    have := b f.percent; have := b f.ops.minus; have := b (lowbatFlag mask f); have := b f.ops.overload
    have := b f.ops.underload; have := b f.ops.rel; have := b f.ops.max; have := b f.ops.min
    have := b f.ops.dc; have := b f.ops.ac; have := b f.ops.auto; have := b f.hz; have := b f.ops.hold
    omega
  rw [BitVec.toNat_ofNat, Nat.mod_eq_of_lt low]
  simp only [Flags.word, toNat_append_ofBool, extractFlags, flagsNumber, BitVec.toNat_ofBool]
  omega

/-! ## Digits -/

/-- One accumulator step is exact while the result fits 18 bits (44_bcd_value_decoder.md R197). -/
theorem accStep_toNat (a : BitVec 18) (d : BitVec 4) (h : a.toNat ≤ 16665) :
    (accStep a d).toNat = a.toNat * 10 + d.toNat := by
  have hd := d.isLt
  simp only [accStep, BitVec.toNat_add, BitVec.toNat_mul, BitVec.toNat_setWidth, BitVec.toNat_ofNat]
  omega

/-- The accumulated magnitude is the digits as a number (44_bcd_value_decoder.md R196). -/
theorem accumulate_toNat (o : FrameOps) : (accumulate o).toNat = magnitude o := by
  have h1 := o.d1.isLt; have h2 := o.d2.isLt; have h3 := o.d3.isLt; have h4 := o.d4.isLt; have h5 := o.d5.isLt
  have e0 : (0#18).toNat = 0 := rfl
  have e1 := accStep_toNat 0#18 o.d1 (by decide)
  have e2 := accStep_toNat (accStep 0#18 o.d1) o.d2 (by omega)
  have e3 := accStep_toNat (accStep (accStep 0#18 o.d1) o.d2) o.d3 (by omega)
  have e4 := accStep_toNat (accStep (accStep (accStep 0#18 o.d1) o.d2) o.d3) o.d4 (by omega)
  have e5 := accStep_toNat (accStep (accStep (accStep (accStep 0#18 o.d1) o.d2) o.d3) o.d4) o.d5 (by omega)
  simp only [accumulate, digits, List.foldl_cons, List.foldl_nil, magnitude]
  omega

theorem accumulate_eq (o : FrameOps) : accumulate o = BitVec.ofNat 18 (magnitude o) := by
  rw [← accumulate_toNat]; simp

theorem magnitude_le (o : FrameOps) : magnitude o ≤ 166665 := by
  have h1 := o.d1.isLt; have h2 := o.d2.isLt; have h3 := o.d3.isLt; have h4 := o.d4.isLt; have h5 := o.d5.isLt
  simp only [magnitude]; omega

/-! ## Exponents -/

/-- The normalised exponent is the exact sum (45_unit_normalizer.md R213). -/
theorem nexp_eq (e : BitVec 4) (n : BitVec 5) :
    e.signExtend 6 + n.signExtend 6 = BitVec.ofInt 6 (e.toInt + n.toInt) := by
  revert e n; decide

theorem nexp_toInt (e : BitVec 4) (n : BitVec 5) :
    (BitVec.ofInt 6 (e.toInt + n.toInt)).toInt = e.toInt + n.toInt ∧
    -24 ≤ e.toInt + n.toInt ∧ e.toInt + n.toInt ≤ 22 := by
  revert e n; decide

/-! ## The fields of the buffer -/

/-- The decoder's fields of FB are the bits of 30_encoding.md R92. -/
theorem frameFields_eq (s : State) :
    frameFields s.fb = ⟨s.selector, s.percentBit, s.hzBit, s.operands⟩ := by
  simp only [frameFields, frameOps, State.selector, State.percentBit, State.hzBit, State.operands, nibOf, ridxOf,
    bitOf_masks]

/-! ## The stages -/

theorem validate_of_validated {s : State} (h : s.Validated) : validate s.len s.fb = .ok () := by
  simp [validate, terminated, h.1, h.2.1, h.2.2]

theorem validate_of_not_validated {s : State} (h : ¬ s.Validated) :
    validate s.len s.fb = .error (.framing s.len) := by
  have hv : (s.len == 14#4 && terminated s.fb) = false := by
    rw [Bool.eq_false_iff]
    intro hc
    simp only [Bool.and_eq_true, beq_iff_eq, terminated_iff] at hc
    exact h hc
  simp [validate, hv]

theorem decodeBuffer_of_validated {s : State} (h : s.Validated) :
    decodeBuffer s.config s.len s.fb =
      decodeFields s.config ⟨s.selector, s.percentBit, s.hzBit, s.operands⟩ := by
  rw [decodeBuffer, validate_of_validated h, frameFields_eq]

theorem decodeBuffer_of_not_validated {s : State} (h : ¬ s.Validated) :
    decodeBuffer s.config s.len s.fb = .error (.framing s.len) := by
  rw [decodeBuffer, validate_of_not_validated h]

theorem selectTable_eq (rom : Rom) (percent hz : Bool) (me : ModeEntry) :
    (selectTable rom percent hz me.tid).1 = tableId rom percent hz me ∧
    (selectTable rom percent hz me.tid).2.code = tableSelCode percent hz := by
  cases percent <;> cases hz <;> exact ⟨rfl, rfl⟩

/-! ## The unit codes -/

/-- A reserved unit code has no entry in any image (30_encoding.md R101 (h)). -/
theorem norm_of_reserved (rom : Rom) {u : BitVec 5} (h : 16 ≤ u.toNat) : rom.norm u = none :=
  if_neg (Nat.not_lt.2 h)

/-- An unreserved unit code has the entry the image gives it. -/
theorem norm_of_lt (rom : Rom) {u : BitVec 5} (h : u.toNat < 16) : rom.norm u = rom.norms[u.toNat]'u.isLt :=
  if_pos h

/-! ## The outcome of a frame's fields, by the table entries it meets -/

section
variable {s : State} {f : FrameFields} {me : ModeEntry} {re : RangeEntry} {ne : NormEntry}

theorem runFrame_mode_none (hm : s.config.rom.mode f.msel = none) :
    s.runFrame f = s.withError 0x12#6 (f.msel.zeroExtend 9) := by
  simp only [State.runFrame, decodeFields, lookupMode, hm, State.commit]
  simp [State.raise, State.clearResults, State.setLen, State.withError, DecError.code, DecError.isFail,
    DecError.info, einfoWord_sel, statusWord]

theorem runFrame_slot_none (hm : s.config.rom.mode f.msel = some me)
    (hs : s.config.rom.slot (tableId s.config.rom f.percent f.hz me) f.ops.ridx = none) :
    s.runFrame f =
      s.withError 0x13#6 (tableSelCode f.percent f.hz ++ f.ops.ridx ++ f.msel) := by
  obtain ⟨t1, t2⟩ := selectTable_eq s.config.rom f.percent f.hz me
  simp only [State.runFrame, decodeFields, lookupMode, hm, lookupRange, t1, hs, State.commit]
  simp [State.raise, State.clearResults, State.setLen, State.withError, DecError.code, DecError.isFail,
    DecError.info, einfoWord, t2, statusWord]

theorem runFrame_norm_none (hm : s.config.rom.mode f.msel = some me)
    (hs : s.config.rom.slot (tableId s.config.rom f.percent f.hz me) f.ops.ridx = some re)
    (hn : s.config.rom.norm re.unit = none) :
    s.runFrame f =
      s.withError 0x14#6 (tableSelCode f.percent f.hz ++ f.ops.ridx ++ f.msel) := by
  obtain ⟨t1, t2⟩ := selectTable_eq s.config.rom f.percent f.hz me
  simp only [State.runFrame, decodeFields, lookupMode, hm, lookupRange, t1, hs, normalise, hn, State.commit]
  simp [State.raise, State.clearResults, State.setLen, State.withError, DecError.code, DecError.isFail,
    DecError.info, einfoWord, t2, statusWord]

theorem runFrame_ok (hm : s.config.rom.mode f.msel = some me)
    (hs : s.config.rom.slot (tableId s.config.rom f.percent f.hz me) f.ops.ridx = some re)
    (hn : s.config.rom.norm re.unit = some ne) :
    s.runFrame f = s.withOk f.msel f.percent f.hz f.ops re ne := by
  obtain ⟨t1, -⟩ := selectTable_eq s.config.rom f.percent f.hz me
  simp only [State.runFrame, decodeFields, lookupMode, hm, lookupRange, t1, hs, normalise, hn, State.commit]
  simp only [assembleResult, State.assemble, State.setLen, State.withOk, Flags.word_eq, accumulate_eq, scale,
    sign, nexp_eq, Flags.mean]
  congr 1
  · simp only [extractFlags]
    cases f.ops.overload <;> cases f.ops.underload <;> decide
  · simp only [extractFlags]
    cases f.ops.minus <;> rfl

end

/-- Everything the DEC of a validated frame can do: one of the three error conditions that a validated frame can meet, or
the measurement. -/
theorem runFrame_cases (s : State) (f : FrameFields) :
    (s.config.rom.mode f.msel = none ∧ s.runFrame f = s.withError 0x12#6 (f.msel.zeroExtend 9)) ∨
    ∃ me, s.config.rom.mode f.msel = some me ∧
      ((s.config.rom.slot (tableId s.config.rom f.percent f.hz me) f.ops.ridx = none ∧
        s.runFrame f = s.withError 0x13#6 (tableSelCode f.percent f.hz ++ f.ops.ridx ++ f.msel)) ∨
       ∃ re, s.config.rom.slot (tableId s.config.rom f.percent f.hz me) f.ops.ridx = some re ∧
        ((s.config.rom.norm re.unit = none ∧
          s.runFrame f = s.withError 0x14#6 (tableSelCode f.percent f.hz ++ f.ops.ridx ++ f.msel)) ∨
         ∃ ne, s.config.rom.norm re.unit = some ne ∧
          s.runFrame f = s.withOk f.msel f.percent f.hz f.ops re ne)) := by
  cases hm : s.config.rom.mode f.msel with
  | none => exact .inl ⟨rfl, runFrame_mode_none hm⟩
  | some me =>
    refine .inr ⟨me, rfl, ?_⟩
    cases hs : s.config.rom.slot (tableId s.config.rom f.percent f.hz me) f.ops.ridx with
    | none => exact .inl ⟨rfl, runFrame_slot_none hm hs⟩
    | some re =>
      refine .inr ⟨re, rfl, ?_⟩
      cases hn : s.config.rom.norm re.unit with
      | none => exact .inl ⟨rfl, runFrame_norm_none hm hs hn⟩
      | some ne => exact .inr ⟨ne, rfl, runFrame_ok hm hs hn⟩

end Sys2Proof.Machine
end

