-- ==== Sys2Proof/Laws/Exec.lean ====
section
/-! SUPPORT. What an instruction, a push and a fetch do, each said once. -/

namespace Sys2Proof.Machine

/-- Every frame class runs the shared operation on its own fields. -/
theorem exec_of_fields {i : Instr} {f : FrameFields} (h : i.fields = some f) (s : State) :
    exec i s = .next (s.runFrame f) := by
  cases i <;> simp only [Instr.fields, Option.some.injEq, reduceCtorEq] at h <;> subst h <;> rfl

/-- DEC over a validated candidate runs the shared operation on the fields of FB. -/
theorem commit_of_validated {s : State} (h : s.Validated) :
    s.commit (decodeBuffer s.config s.len s.fb) =
      s.runFrame ⟨s.selector, s.percentBit, s.hzBit, s.operands⟩ := by
  rw [decodeBuffer_of_validated h, State.runFrame]

/-- DEC over any other candidate takes FramingError. -/
theorem commit_of_not_validated {s : State} (h : ¬ s.Validated) :
    s.commit (decodeBuffer s.config s.len s.fb) = s.withError 0x01#6 (s.len.zeroExtend 9) := by
  rw [decodeBuffer_of_not_validated h]
  simp [State.commit, State.raise, State.clearResults, State.setLen, State.withError, DecError.code,
    DecError.isFail, DecError.info, einfoWord_sel, statusWord]

/-- What the end of a DEC leaves alone, whatever the outcome (40_port_operations.md R123). -/
theorem commit_frame (s : State) (out : Except DecError Measurement) :
    (s.commit out).fb = s.fb ∧ (s.commit out).len = 0#4 ∧ (s.commit out).config = s.config ∧
    (s.commit out).port = s.port := by
  cases out <;> simp [State.commit]

/-- The results of a DEC are its outcome's: nothing of the state before it is in them. -/
theorem commit_sameResults (s s' : State) (out : Except DecError Measurement) :
    SameResults (s.commit out) (s'.commit out) := by
  cases out <;> simp [State.commit, SameResults]

/-- The fields of STATUS after an error condition. -/
theorem withError_code (s : State) (w : BitVec 6) (e : BitVec 9) : (s.withError w e).code = w.extractLsb' 0 3 := rfl

/-- A run of two lists is the run of the second from where the first ends. -/
theorem execAll_append {s t : State} {a : List Instr} (b : List Instr) (h : execAll a s = .next t) :
    execAll (a ++ b) s = execAll b t := by
  induction a generalizing s with
  | nil => simp only [execAll, Host.Outcome.next.injEq] at h; rw [List.nil_append, h]
  | cons i is ih =>
    simp only [List.cons_append, execAll] at h ⊢
    cases hi : exec i s <;> rw [hi] at h <;> first | exact ih h | exact absurd h (by simp)

theorem pushByte_of_lt {s : State} (h : s.len.toNat < 14) (b : Byte) :
    s.pushByte b = (s.writeFb ⟨s.len.toNat, h⟩ b).setLen (s.len + 1#4) := by
  simp [State.pushByte, h]

theorem pushByte_of_ge {s : State} (h : 14 ≤ s.len.toNat) (b : Byte) : s.pushByte b = s.setLen 15#4 := by
  simp [State.pushByte, Nat.not_lt.mpr h]

/-- The class of the frame in FB, where the candidate is validated. -/
theorem fetchDec_of_validated {s : State} (h : s.Validated) : s.fetchDec = classOf (frameFields s.fb) := by
  simp [State.fetchDec, h.1, decodeFrame_toList, (terminated_iff s.fb).mpr h.2]

theorem fetchDec_of_not_validated {s : State} (h : ¬ s.Validated) : s.fetchDec = .dec := by
  by_cases hl : s.len = 14#4
  · have ht : ¬ terminated s.fb = true := fun hc => h ⟨hl, (terminated_iff s.fb).mp hc⟩
    simp [State.fetchDec, hl, decodeFrame_toList, ht]
  · simp [State.fetchDec, hl]

theorem step_of_empty {s : State} (h : s.port = []) : step s = .next s := by
  simp [step, State.fetch, h]

theorem step_of_port {s : State} {c : CmdWord} {rest : List CmdWord} (h : s.port = c :: rest) :
    step s = exec (s.fetchWord c) s.popPort := by
  simp [step, State.fetch, h]

end Sys2Proof.Machine
end

