-- ==== Sys2Proof/Laws/PerInstr.lean ====
section
/-! SUPPORT. Laws that hold of every instruction as syntax, one lemma per constructor. -/

namespace Sys2Proof.Laws.EncodedForm

/-- The encoding of an instruction has the form of its row (30_encoding.md R91, R92): a command word whose
op bits are those of a CMD row with the instruction's mnemonic, or 14 bytes that end in 0x0D 0x0A. -/
def Statement (i : Instr) : Prop :=
  match i.fields with
  | none => ∃ r ∈ cmdRows, r.mnemonic = i.mnemonic ∧ r.fits i.cmdWord = true ∧ encode i = .cmd i.cmdWord
  | some f => ∃ fb : FrameBytes, encode i = .frame fb.toList ∧ terminated fb = true ∧ nibOf fb[6] = f.msel

/-- A frame class's encoding is the assembled frame of its fields, which is terminated. -/
theorem frame_form {i : Instr} {f : FrameFields} (h : i.fields = some f) : Statement i := by
  unfold Statement
  rw [h]
  exact ⟨assemble 0#4 f, encode_of_fields h, rfl, assemble_msel 0#4 f⟩

theorem nop : Statement .nop :=
  ⟨⟨"NOP", 0x000#10, 0x300#10⟩, by simp [cmdRows], rfl, by decide, rfl⟩

theorem push (b : Byte) : Statement (.push b) :=
  ⟨⟨"PUSH", 0x100#10, 0x300#10⟩, by simp [cmdRows], rfl, push_word_fits b, rfl⟩

theorem dec : Statement .dec :=
  ⟨⟨"DEC", 0x200#10, 0x300#10⟩, by simp [cmdRows], rfl, by decide, rfl⟩

theorem rst : Statement .rst :=
  ⟨⟨"RST", 0x300#10, 0x300#10⟩, by simp [cmdRows], rfl, by decide, rfl⟩

theorem decA10 (o : FrameOps) : Statement (.decA10 o) :=
  frame_form rfl

theorem decA10Hz (o : FrameOps) : Statement (.decA10Hz o) :=
  frame_form rfl

theorem decA10Pct (hz : Bool) (o : FrameOps) : Statement (.decA10Pct hz o) :=
  frame_form rfl

theorem decDiode (o : FrameOps) : Statement (.decDiode o) :=
  frame_form rfl

theorem decDiodeHz (o : FrameOps) : Statement (.decDiodeHz o) :=
  frame_form rfl

theorem decDiodePct (hz : Bool) (o : FrameOps) : Statement (.decDiodePct hz o) :=
  frame_form rfl

theorem decFreq (o : FrameOps) : Statement (.decFreq o) :=
  frame_form rfl

theorem decFreqHz (o : FrameOps) : Statement (.decFreqHz o) :=
  frame_form rfl

theorem decFreqPct (hz : Bool) (o : FrameOps) : Statement (.decFreqPct hz o) :=
  frame_form rfl

theorem decOhm (o : FrameOps) : Statement (.decOhm o) :=
  frame_form rfl

theorem decOhmHz (o : FrameOps) : Statement (.decOhmHz o) :=
  frame_form rfl

theorem decOhmPct (hz : Bool) (o : FrameOps) : Statement (.decOhmPct hz o) :=
  frame_form rfl

theorem decTemp (o : FrameOps) : Statement (.decTemp o) :=
  frame_form rfl

theorem decTempHz (o : FrameOps) : Statement (.decTempHz o) :=
  frame_form rfl

theorem decTempPct (hz : Bool) (o : FrameOps) : Statement (.decTempPct hz o) :=
  frame_form rfl

theorem decCont (o : FrameOps) : Statement (.decCont o) :=
  frame_form rfl

theorem decContHz (o : FrameOps) : Statement (.decContHz o) :=
  frame_form rfl

theorem decContPct (hz : Bool) (o : FrameOps) : Statement (.decContPct hz o) :=
  frame_form rfl

theorem decCap (o : FrameOps) : Statement (.decCap o) :=
  frame_form rfl

theorem decCapHz (o : FrameOps) : Statement (.decCapHz o) :=
  frame_form rfl

theorem decCapPct (hz : Bool) (o : FrameOps) : Statement (.decCapPct hz o) :=
  frame_form rfl

theorem decRsvd7 (percent : Bool) (hz : Bool) (o : FrameOps) : Statement (.decRsvd7 percent hz o) :=
  frame_form rfl

theorem decRsvd8 (percent : Bool) (hz : Bool) (o : FrameOps) : Statement (.decRsvd8 percent hz o) :=
  frame_form rfl

theorem decAman (o : FrameOps) : Statement (.decAman o) :=
  frame_form rfl

theorem decAmanHz (o : FrameOps) : Statement (.decAmanHz o) :=
  frame_form rfl

theorem decAmanPct (hz : Bool) (o : FrameOps) : Statement (.decAmanPct hz o) :=
  frame_form rfl

theorem decRsvd10 (percent : Bool) (hz : Bool) (o : FrameOps) : Statement (.decRsvd10 percent hz o) :=
  frame_form rfl

theorem decV (o : FrameOps) : Statement (.decV o) :=
  frame_form rfl

theorem decVHz (o : FrameOps) : Statement (.decVHz o) :=
  frame_form rfl

theorem decVPct (hz : Bool) (o : FrameOps) : Statement (.decVPct hz o) :=
  frame_form rfl

theorem decRsvd12 (percent : Bool) (hz : Bool) (o : FrameOps) : Statement (.decRsvd12 percent hz o) :=
  frame_form rfl

theorem decUa (o : FrameOps) : Statement (.decUa o) :=
  frame_form rfl

theorem decUaHz (o : FrameOps) : Statement (.decUaHz o) :=
  frame_form rfl

theorem decUaPct (hz : Bool) (o : FrameOps) : Statement (.decUaPct hz o) :=
  frame_form rfl

theorem decAdp (o : FrameOps) : Statement (.decAdp o) :=
  frame_form rfl

theorem decAdpHz (o : FrameOps) : Statement (.decAdpHz o) :=
  frame_form rfl

theorem decAdpPct (hz : Bool) (o : FrameOps) : Statement (.decAdpPct hz o) :=
  frame_form rfl

theorem decMa (o : FrameOps) : Statement (.decMa o) :=
  frame_form rfl

theorem decMaHz (o : FrameOps) : Statement (.decMaHz o) :=
  frame_form rfl

theorem decMaPct (hz : Bool) (o : FrameOps) : Statement (.decMaPct hz o) :=
  frame_form rfl

end Sys2Proof.Laws.EncodedForm
end

