-- ==== Sys2Proof/Tests/Slice0.lean ====
section
/-! SUPPORT. Tests: ill-formed ROM images and instructions the checks refuse, words written out from the spec's
encodings, single steps with the expected values of spec/95_test_vectors.md, and a witness for the hypotheses of every
statement. Every expected value is the spec's (a vector by its id) or a hand calculation from the rules named. -/

namespace Sys2Proof.Tests

open Sys2Proof Sys2Proof.Machine

/-! ## Helpers -/

/-- The operands of `frame r=<r> d=<d1..d5>` with no flag. -/
def ops (r : BitVec 3) (d1 d2 d3 d4 d5 : BitVec 4) : FrameOps :=
  ⟨r, d1, d2, d3, d4, d5, false, false, false, false, false, false, false, false, false, false, false⟩

/-- The reset state with a candidate of 14 bytes in the buffer. -/
def loaded (fb : FrameBytes) : State :=
  { State.reset with fb := fb, len := 14#4 }

/-- A DEC presented at the port. -/
def dec (s : State) : State :=
  { s with port := [0x200#10] }

/-- A command word presented at the port. -/
def cmd (w : CmdWord) (s : State) : State :=
  { s with port := [w] }

def withRom (rom : Rom) (s : State) : State :=
  { s with config := { s.config with rom := rom } }

def withMask08 (s : State) : State :=
  { s with config := { s.config with lowbatMask := .bit3 } }

/-- The registers 0 to 10 of 10_state.md R24 as numbers, DEXP and NEXP signed. -/
def readings (s : State) : List Int :=
  [s.status.toNat, s.einfo.toNat, s.msel.toNat, s.tpl.toNat, s.neg.toNat, s.mag.toNat, s.dexp.toInt,
   s.dunit.toNat, s.nexp.toInt, s.nunit.toNat, s.flags.toNat]

/-- The state after one step. -/
def stepped (s : State) : Option State :=
  match step s with
  | .next t => some t
  | _ => none

/-- The readings after one step. -/
def after (s : State) : Option (List Int) :=
  (stepped s).map readings

/-- The bytes of V-S1, the frame `r=0 d=02200 m=0xB`. -/
def good : FrameBytes :=
  #v[0x00, 0x00, 0x02, 0x02, 0x00, 0x00, 0x0B, 0x00, 0x00, 0x00, 0x00, 0x00, 0x0D, 0x0A]

/-- The bytes of V-V8: the terminator swapped. -/
def swapped : FrameBytes :=
  #v[0x00, 0x00, 0x02, 0x02, 0x00, 0x00, 0x0B, 0x00, 0x00, 0x00, 0x00, 0x00, 0x0A, 0x0D]

/-- The bytes of V-M7: the undefined selector 0x7, percent set. -/
def undefinedMode : FrameBytes :=
  #v[0x00, 0x00, 0x00, 0x00, 0x00, 0x00, 0x07, 0x08, 0x00, 0x00, 0x00, 0x00, 0x0D, 0x0A]

/-- The bytes of V-O4: slot 2 of the frequency table is absent. -/
def absentSlot : FrameBytes :=
  #v[0x02, 0x00, 0x00, 0x05, 0x00, 0x00, 0x0B, 0x00, 0x00, 0x00, 0x01, 0x00, 0x0D, 0x0A]

/-- An image that breaks W2: slot 0 of the voltage table has unit code 16, which has no NORMROM entry (V-N16). -/
def romUnit16 : Rom :=
  { romDefault with ranges := romDefault.ranges.set 1 (RomDefault.tableV.set 0 (RomDefault.present 0 16 (-4))) }

/-- The same image with a NORMROM entry at the reserved code 16, which nothing reads (R101 (h)). -/
def romUnit16Entry : Rom :=
  { romUnit16 with norms := romUnit16.norms.set 16 (RomDefault.scaled 0 16) }

/-- The last reserved code: slot 0 of the voltage table has unit code 31, and NORMROM[31] holds an entry. -/
def romUnit31Entry : Rom :=
  { romDefault with
    ranges := romDefault.ranges.set 1 (RomDefault.tableV.set 0 (RomDefault.present 0 31 (-4)))
    norms  := romDefault.norms.set 31 (RomDefault.scaled 0 31) }

/-- An image that defines selector 0x7, with the table of `romUnit31Entry`: DEC.RSVD7 is a class it does not have. -/
def romRsvd7Unit31 : Rom :=
  { romUnit31Entry with modes := romUnit31Entry.modes.set 7 (some ⟨1⟩) }

/-- An image whose temperature and adp modes have a table of their own. -/
def romTemp : Rom :=
  { romDefault with modes := (romDefault.modes.set 4 (some ⟨6⟩)).set 14 (some ⟨6⟩) }

/-! ## WellFormed refuses an ill-formed image or instruction -/

theorem smoke_W1 : ¬ Rom.W1 { romDefault with ranges := romDefault.ranges.set 0 RomDefault.tableV } := by decide
theorem smoke_W2 : ¬ romUnit16.W2 := by decide
theorem smoke_W2_reserved : ¬ romUnit16Entry.W2 := by decide
theorem smoke_W3 : ¬ Rom.W3 { romDefault with norms := romDefault.norms.set 3 (RomDefault.scaled (-3) 1) } := by
  decide
theorem smoke_W4Voltage : ¬ Rom.W4Voltage { romDefault with modes := romDefault.modes.set 11 none } := by decide
theorem smoke_W4Microamp : ¬ Rom.W4Microamp { romDefault with modes := romDefault.modes.set 13 (some ⟨3⟩) } := by
  decide
theorem smoke_W4Norm : ¬ Rom.W4Norm { romDefault with norms := romDefault.norms.set 1 (RomDefault.scaled (-2) 0) } := by
  decide
theorem smoke_W5 : ¬ Rom.W5 { romDefault with pctTid := 0 } ∧ ¬ Rom.W5 { romDefault with hzTid := 0 } := by decide
theorem smoke_W6 : ¬ Rom.W6 { romDefault with modes := Vector.replicate 16 (some ⟨1⟩) } := by decide
theorem smoke_admissible : romDefault.Admissible ∧ romTemp.Admissible := ⟨by decide, by decide⟩
theorem smoke_inadmissible : ¬ romUnit16.Admissible ∧ ¬ romUnit16Entry.Admissible :=
  ⟨fun h => smoke_W2 h.2.1, fun h => smoke_W2_reserved h.2.1⟩
theorem smoke_rsvd : (Instr.decRsvd7 true false (ops 0 0 0 0 0 0)).wf romDefault = true ∧
    (Instr.decRsvd7 true false (ops 0 0 0 0 0 0)).wf { romDefault with modes := romDefault.modes.set 7 (some ⟨1⟩) } =
      false := by decide
theorem smoke_mode : (Instr.decV (ops 0 0 0 0 0 0)).wf romDefault = true ∧
    (Instr.decV (ops 0 0 0 0 0 0)).wf { romDefault with modes := romDefault.modes.set 11 none } = false := by decide

/-! ## The port commands -/

/-- R91 (0x000, 0x0AA), V-P2: the data of NOP is ignored. -/
theorem test_nop : decodeTableWord 16 0x000 = some .nop ∧ decodeTableWord 16 0x0AA = some .nop ∧
    stepped (cmd 0x0AA (loaded good)) = some (loaded good) := by
  decide

/-- R91 (0x13B), V-P3: FB[0] = 0x3B, LEN 1. -/
theorem test_push : decodeTableWord 16 0x13B = some (.push 0x3B) ∧
    stepped (State.reset.withFetchWord 16 0x13B) =
      some { State.reset with fb := (Vector.replicate 14 0x00#8).set 0 0x3B#8, len := 1#4 } := by
  decide

/-- V-P4, V-P5, V-P6: the last byte, and the two ways of being full. -/
theorem test_push_last :
    stepped (cmd 0x10A { loaded good with len := 13#4 }) = some (loaded good) ∧
    stepped (cmd 0x155 (loaded good)) = some { loaded good with len := 15#4 } ∧
    stepped (cmd 0x155 { loaded good with len := 15#4 }) = some { loaded good with len := 15#4 } := by
  decide

/-- R91 (0x200, 0x2FF), V-P7, V-P9: DEC of an empty candidate. -/
theorem test_dec : decodeTableWord 16 0x200 = some .dec ∧ decodeTableWord 16 0x2FF = some .dec ∧
    after (State.reset.withFetchWord 16 0x200) = some [0x01, 0, 0, 0, 0, 0, 0, 0, 0, 0, 0] ∧
    after (cmd 0x2FF { loaded good with len := 0#4, status := 0x28#6, msel := 0xB#4, mag := 2200#18 }) =
      some [0x01, 0, 0, 0, 0, 0, 0, 0, 0, 0, 0] := by
  decide

/-- V-V3 to V-V7 at the DEC: EINFO is LEN. -/
theorem test_dec_lengths :
    after (dec { loaded good with len := 13#4 }) = some [0x01, 0x00D, 0, 0, 0, 0, 0, 0, 0, 0, 0] ∧
    after (dec { loaded good with len := 15#4 }) = some [0x01, 0x00F, 0, 0, 0, 0, 0, 0, 0, 0, 0] := by
  decide

/-- R91 (0x300, 0x3FF), V-P11, V-P12: every register takes its reset value. -/
theorem test_rst : decodeTableWord 16 0x300 = some .rst ∧ decodeTableWord 16 0x3FF = some .rst ∧
    stepped (cmd 0x3FF { loaded good with len := 9#4, status := 0x28#6, msel := 0xB#4, mag := 2200#18 }) =
      some State.reset := by
  decide

/-- A word outside the formats has no instruction: 11 bits, a frame that is not terminated, a wider row. -/
theorem test_no_instruction : decodeTableWord 16 0x400 = none ∧
    decodeTableWord 112 0x0000020200000B00000000000A0D = none ∧ decodeTableWord 120 0 = none := by
  decide

/-! ## The frame classes: a word of each, and its step from reset -/

/-- V-M0. -/
theorem test_decA10 :
    decodeTableWord 112 0x0000010203040000000000000D0A = some (.decA10 (ops 0 0 1 2 3 4)) ∧
    after (State.reset.withFetchWord 112 0x0000010203040000000000000D0A) =
      some [0x28, 0x0, 0, 6, 0, 1234, -3, 2, -3, 2, 0x0] := by
  decide

/-- V-M1. -/
theorem test_decDiode :
    decodeTableWord 112 0x0000050403020100000000000D0A = some (.decDiode (ops 0 0 5 4 3 2)) ∧
    after (State.reset.withFetchWord 112 0x0000050403020100000000000D0A) =
      some [0x28, 0x0, 1, 0, 0, 5432, -4, 0, -4, 0, 0x0] := by
  decide

/-- V-M2. -/
theorem test_decFreq :
    decodeTableWord 112 0x0301020304050200000000000D0A = some (.decFreq (ops 3 1 2 3 4 5)) ∧
    after (State.reset.withFetchWord 112 0x0301020304050200000000000D0A) =
      some [0x28, 0x0, 2, 1, 0, 12345, -3, 13, 0, 12, 0x0] := by
  decide

/-- V-M3. -/
theorem test_decOhm :
    decodeTableWord 112 0x0101000000000300000000000D0A = some (.decOhm (ops 1 1 0 0 0 0)) ∧
    after (State.reset.withFetchWord 112 0x0101000000000300000000000D0A) =
      some [0x28, 0x0, 3, 0, 0, 10000, -4, 6, -1, 5, 0x0] := by
  decide

/-- V-M4. -/
theorem test_decTemp :
    decodeTableWord 112 0x0000000205000400000000000D0A = some (.decTemp (ops 0 0 0 2 5 0)) ∧
    after (State.reset.withFetchWord 112 0x0000000205000400000000000D0A) =
      some [0x13, 0x4, 0, 0, 0, 0, 0, 0, 0, 0, 0x0] := by
  decide

/-- V-M5. -/
theorem test_decCont :
    decodeTableWord 112 0x0000000102030500000000000D0A = some (.decCont (ops 0 0 0 1 2 3)) ∧
    after (State.reset.withFetchWord 112 0x0000000102030500000000000D0A) =
      some [0x28, 0x0, 5, 2, 0, 123, -2, 5, -2, 5, 0x0] := by
  decide

/-- V-M6. -/
theorem test_decCap :
    decodeTableWord 112 0x0000040700000600000000000D0A = some (.decCap (ops 0 0 4 7 0 0)) ∧
    after (State.reset.withFetchWord 112 0x0000040700000600000000000D0A) =
      some [0x28, 0x0, 6, 1, 0, 4700, -3, 9, -12, 8, 0x0] := by
  decide

/-- V-M7. -/
theorem test_decRsvd7 :
    decodeTableWord 112 0x0000000000000708000000000D0A = some (.decRsvd7 true false (ops 0 0 0 0 0 0)) ∧
    after (State.reset.withFetchWord 112 0x0000000000000708000000000D0A) =
      some [0x12, 0x7, 0, 0, 0, 0, 0, 0, 0, 0, 0x0] := by
  decide

/-- V-M8. -/
theorem test_decRsvd8 :
    decodeTableWord 112 0x0001020304050800000000000D0A = some (.decRsvd8 false false (ops 0 1 2 3 4 5)) ∧
    after (State.reset.withFetchWord 112 0x0001020304050800000000000D0A) =
      some [0x12, 0x8, 0, 0, 0, 0, 0, 0, 0, 0, 0x0] := by
  decide

/-- V-M9. -/
theorem test_decAman :
    decodeTableWord 112 0x0400000001050900000000000D0A = some (.decAman (ops 4 0 0 0 1 5)) ∧
    after (State.reset.withFetchWord 112 0x0400000001050900000000000D0A) =
      some [0x28, 0x0, 9, 4, 0, 15, 0, 2, 0, 2, 0x0] := by
  decide

/-- V-M10. -/
theorem test_decRsvd10 :
    decodeTableWord 112 0x0000000000000A00000001000D0A = some (.decRsvd10 false true (ops 0 0 0 0 0 0)) ∧
    after (State.reset.withFetchWord 112 0x0000000000000A00000001000D0A) =
      some [0x12, 0xa, 0, 0, 0, 0, 0, 0, 0, 0, 0x0] := by
  decide

/-- V-M11. -/
theorem test_decV :
    decodeTableWord 112 0x0401020304050B0000000A000D0A = some (.decV { ops 4 1 2 3 4 5 with dc := true, auto := true }) ∧
    after (State.reset.withFetchWord 112 0x0401020304050B0000000A000D0A) =
      some [0x28, 0x0, 11, 2, 0, 12345, -2, 1, -5, 0, 0x500] := by
  decide

/-- V-M12. -/
theorem test_decRsvd12 :
    decodeTableWord 112 0x0709090909090C00000000000D0A = some (.decRsvd12 false false (ops 7 9 9 9 9 9)) ∧
    after (State.reset.withFetchWord 112 0x0709090909090C00000000000D0A) =
      some [0x12, 0xc, 0, 0, 0, 0, 0, 0, 0, 0, 0x0] := by
  decide

/-- V-M13. -/
theorem test_decUa :
    decodeTableWord 112 0x0001020304050D00000000000D0A = some (.decUa (ops 0 1 2 3 4 5)) ∧
    after (State.reset.withFetchWord 112 0x0001020304050D00000000000D0A) =
      some [0x28, 0x0, 13, 2, 0, 12345, -2, 4, -8, 2, 0x0] := by
  decide

/-- V-M14. -/
theorem test_decAdp :
    decodeTableWord 112 0x0000000000010E00000000000D0A = some (.decAdp (ops 0 0 0 0 0 1)) ∧
    after (State.reset.withFetchWord 112 0x0000000000010E00000000000D0A) =
      some [0x13, 0xe, 0, 0, 0, 0, 0, 0, 0, 0, 0x0] := by
  decide

/-- V-M15. -/
theorem test_decMa :
    decodeTableWord 112 0x0101050000000F00000000000D0A = some (.decMa (ops 1 1 5 0 0 0)) ∧
    after (State.reset.withFetchWord 112 0x0101050000000F00000000000D0A) =
      some [0x28, 0x0, 15, 2, 0, 15000, -2, 3, -5, 2, 0x0] := by
  decide

/-- R70, R182, R210: slot 0 of T_FREQ. -/
theorem test_decA10Hz :
    decodeTableWord 112 0x0000000500000000000001000D0A = some (.decA10Hz (ops 0 0 0 5 0 0)) ∧
    after (State.reset.withFetchWord 112 0x0000000500000000000001000D0A) =
      some [0x28, 0x0, 0, 2, 0, 500, -2, 12, -2, 12, 0x800] := by
  decide

/-- R70, R182, R210: slot 0 of T_FREQ. -/
theorem test_decDiodeHz :
    decodeTableWord 112 0x0000000500000100000001000D0A = some (.decDiodeHz (ops 0 0 0 5 0 0)) ∧
    after (State.reset.withFetchWord 112 0x0000000500000100000001000D0A) =
      some [0x28, 0x0, 1, 2, 0, 500, -2, 12, -2, 12, 0x800] := by
  decide

/-- R70, R182, R210: slot 0 of T_FREQ. -/
theorem test_decFreqHz :
    decodeTableWord 112 0x0000000500000200000001000D0A = some (.decFreqHz (ops 0 0 0 5 0 0)) ∧
    after (State.reset.withFetchWord 112 0x0000000500000200000001000D0A) =
      some [0x28, 0x0, 2, 2, 0, 500, -2, 12, -2, 12, 0x800] := by
  decide

/-- R70, R182, R210: slot 0 of T_FREQ. -/
theorem test_decOhmHz :
    decodeTableWord 112 0x0000000500000300000001000D0A = some (.decOhmHz (ops 0 0 0 5 0 0)) ∧
    after (State.reset.withFetchWord 112 0x0000000500000300000001000D0A) =
      some [0x28, 0x0, 3, 2, 0, 500, -2, 12, -2, 12, 0x800] := by
  decide

/-- V-O6. -/
theorem test_decTempHz :
    decodeTableWord 112 0x0700000500000400000001000D0A = some (.decTempHz (ops 7 0 0 5 0 0)) ∧
    after (State.reset.withFetchWord 112 0x0700000500000400000001000D0A) =
      some [0x28, 0x0, 4, 2, 0, 500, -2, 14, 4, 12, 0x800] := by
  decide

/-- R70, R182, R210: slot 0 of T_FREQ. -/
theorem test_decContHz :
    decodeTableWord 112 0x0000000500000500000001000D0A = some (.decContHz (ops 0 0 0 5 0 0)) ∧
    after (State.reset.withFetchWord 112 0x0000000500000500000001000D0A) =
      some [0x28, 0x0, 5, 2, 0, 500, -2, 12, -2, 12, 0x800] := by
  decide

/-- R70, R182, R210: slot 0 of T_FREQ. -/
theorem test_decCapHz :
    decodeTableWord 112 0x0000000500000600000001000D0A = some (.decCapHz (ops 0 0 0 5 0 0)) ∧
    after (State.reset.withFetchWord 112 0x0000000500000600000001000D0A) =
      some [0x28, 0x0, 6, 2, 0, 500, -2, 12, -2, 12, 0x800] := by
  decide

/-- R70, R182, R210: slot 0 of T_FREQ. -/
theorem test_decAmanHz :
    decodeTableWord 112 0x0000000500000900000001000D0A = some (.decAmanHz (ops 0 0 0 5 0 0)) ∧
    after (State.reset.withFetchWord 112 0x0000000500000900000001000D0A) =
      some [0x28, 0x0, 9, 2, 0, 500, -2, 12, -2, 12, 0x800] := by
  decide

/-- V-O2. -/
theorem test_decVHz :
    decodeTableWord 112 0x0100000500000B00000005000D0A = some (.decVHz { ops 1 0 0 5 0 0 with ac := true }) ∧
    after (State.reset.withFetchWord 112 0x0100000500000B00000005000D0A) =
      some [0x28, 0x0, 11, 3, 0, 500, -1, 12, -1, 12, 0xa00] := by
  decide

/-- V-O8. -/
theorem test_decUaHz :
    decodeTableWord 112 0x0000000500000D00000001000D0A = some (.decUaHz (ops 0 0 0 5 0 0)) ∧
    after (State.reset.withFetchWord 112 0x0000000500000D00000001000D0A) =
      some [0x28, 0x0, 13, 2, 0, 500, -2, 12, -2, 12, 0x800] := by
  decide

/-- R70, R182, R210: slot 0 of T_FREQ. -/
theorem test_decAdpHz :
    decodeTableWord 112 0x0000000500000E00000001000D0A = some (.decAdpHz (ops 0 0 0 5 0 0)) ∧
    after (State.reset.withFetchWord 112 0x0000000500000E00000001000D0A) =
      some [0x28, 0x0, 14, 2, 0, 500, -2, 12, -2, 12, 0x800] := by
  decide

/-- R70, R182, R210: slot 0 of T_FREQ. -/
theorem test_decMaHz :
    decodeTableWord 112 0x0000000500000F00000001000D0A = some (.decMaHz (ops 0 0 0 5 0 0)) ∧
    after (State.reset.withFetchWord 112 0x0000000500000F00000001000D0A) =
      some [0x28, 0x0, 15, 2, 0, 500, -2, 12, -2, 12, 0x800] := by
  decide

/-- R71, R182, R210: a slot of T_PCT. -/
theorem test_decA10Pct :
    decodeTableWord 112 0x0000000205000008000000000D0A = some (.decA10Pct false (ops 0 0 0 2 5 0)) ∧
    after (State.reset.withFetchWord 112 0x0000000205000008000000000D0A) =
      some [0x28, 0x0, 0, 7, 0, 250, -1, 15, -1, 15, 0x1] := by
  decide

/-- R71, R182, R210: a slot of T_PCT. -/
theorem test_decDiodePct :
    decodeTableWord 112 0x0000000205000108000000000D0A = some (.decDiodePct false (ops 0 0 0 2 5 0)) ∧
    after (State.reset.withFetchWord 112 0x0000000205000108000000000D0A) =
      some [0x28, 0x0, 1, 7, 0, 250, -1, 15, -1, 15, 0x1] := by
  decide

/-- R71, R182, R210: a slot of T_PCT. -/
theorem test_decFreqPct :
    decodeTableWord 112 0x0000000205000208000000000D0A = some (.decFreqPct false (ops 0 0 0 2 5 0)) ∧
    after (State.reset.withFetchWord 112 0x0000000205000208000000000D0A) =
      some [0x28, 0x0, 2, 7, 0, 250, -1, 15, -1, 15, 0x1] := by
  decide

/-- R71, R182, R210: a slot of T_PCT. -/
theorem test_decOhmPct :
    decodeTableWord 112 0x0000000205000308000000000D0A = some (.decOhmPct false (ops 0 0 0 2 5 0)) ∧
    after (State.reset.withFetchWord 112 0x0000000205000308000000000D0A) =
      some [0x28, 0x0, 3, 7, 0, 250, -1, 15, -1, 15, 0x1] := by
  decide

/-- V-O5. -/
theorem test_decTempPct :
    decodeTableWord 112 0x0000000205000408000000000D0A = some (.decTempPct false (ops 0 0 0 2 5 0)) ∧
    after (State.reset.withFetchWord 112 0x0000000205000408000000000D0A) =
      some [0x28, 0x0, 4, 7, 0, 250, -1, 15, -1, 15, 0x1] := by
  decide

/-- R71, R182, R210: a slot of T_PCT. -/
theorem test_decContPct :
    decodeTableWord 112 0x0000000205000508000000000D0A = some (.decContPct false (ops 0 0 0 2 5 0)) ∧
    after (State.reset.withFetchWord 112 0x0000000205000508000000000D0A) =
      some [0x28, 0x0, 5, 7, 0, 250, -1, 15, -1, 15, 0x1] := by
  decide

/-- R71, R182, R210: a slot of T_PCT. -/
theorem test_decCapPct :
    decodeTableWord 112 0x0000000205000608000000000D0A = some (.decCapPct false (ops 0 0 0 2 5 0)) ∧
    after (State.reset.withFetchWord 112 0x0000000205000608000000000D0A) =
      some [0x28, 0x0, 6, 7, 0, 250, -1, 15, -1, 15, 0x1] := by
  decide

/-- R71, R182, R210: a slot of T_PCT. -/
theorem test_decAmanPct :
    decodeTableWord 112 0x0000000205000908000000000D0A = some (.decAmanPct false (ops 0 0 0 2 5 0)) ∧
    after (State.reset.withFetchWord 112 0x0000000205000908000000000D0A) =
      some [0x28, 0x0, 9, 7, 0, 250, -1, 15, -1, 15, 0x1] := by
  decide

/-- V-O3. -/
theorem test_decVPct :
    decodeTableWord 112 0x0200000909090B08000001000D0A = some (.decVPct true (ops 2 0 0 9 9 9)) ∧
    after (State.reset.withFetchWord 112 0x0200000909090B08000001000D0A) =
      some [0x28, 0x0, 11, 7, 0, 999, -1, 15, -1, 15, 0x801] := by
  decide

/-- R71, R182, R210: a slot of T_PCT. -/
theorem test_decUaPct :
    decodeTableWord 112 0x0000000205000D08000000000D0A = some (.decUaPct false (ops 0 0 0 2 5 0)) ∧
    after (State.reset.withFetchWord 112 0x0000000205000D08000000000D0A) =
      some [0x28, 0x0, 13, 7, 0, 250, -1, 15, -1, 15, 0x1] := by
  decide

/-- V-O7. -/
theorem test_decAdpPct :
    decodeTableWord 112 0x0000000000010E08000000000D0A = some (.decAdpPct false (ops 0 0 0 0 0 1)) ∧
    after (State.reset.withFetchWord 112 0x0000000000010E08000000000D0A) =
      some [0x28, 0x0, 14, 7, 0, 1, -1, 15, -1, 15, 0x1] := by
  decide

/-- R71, R182, R210: a slot of T_PCT. -/
theorem test_decMaPct :
    decodeTableWord 112 0x0000000205000F08000000000D0A = some (.decMaPct false (ops 0 0 0 2 5 0)) ∧
    after (State.reset.withFetchWord 112 0x0000000205000F08000000000D0A) =
      some [0x28, 0x0, 15, 7, 0, 250, -1, 15, -1, 15, 0x1] := by
  decide

/-! ## Vectors of 95_test_vectors.md, through the port's DEC -/

/-- V-S1 with the upper nibbles of an instrument, and V-S2: the source's two worked examples. -/
theorem test_scenarios :
    after (dec (loaded #v[0x30, 0x30, 0x32, 0x32, 0x30, 0x30, 0x3B, 0x30, 0x30, 0x30, 0x30, 0x30, 0x0D, 0x0A])) =
      some [0x28, 0x0, 11, 0, 0, 2200, -4, 0, -4, 0, 0x0] ∧
    after (dec (loaded #v[0x01, 0x00, 0x02, 0x02, 0x00, 0x00, 0x0D, 0x04, 0x00, 0x00, 0x00, 0x00, 0x0D, 0x0A])) =
      some [0x28, 0x0, 13, 3, 1, 2200, -1, 4, -7, 2, 0x2] := by
  decide

/-- V-F1, V-F2, V-F3, V-F6, V-F7, V-F8, V-F9 (42_flag_extractor.md). -/
theorem test_flag_vectors_low :
    after (dec (loaded #v[0x00, 0x00, 0x00, 0x00, 0x00, 0x00, 0x0B, 0x08, 0x00, 0x00, 0x00, 0x00, 0x0D, 0x0A])) =
      some [0x28, 0x0, 11, 7, 0, 0, -1, 15, -1, 15, 0x1] ∧
    after (dec (loaded #v[0x00, 0x00, 0x00, 0x00, 0x00, 0x00, 0x0B, 0x04, 0x00, 0x00, 0x00, 0x00, 0x0D, 0x0A])) =
      some [0x28, 0x0, 11, 0, 1, 0, -4, 0, -4, 0, 0x2] ∧
    after (dec (loaded #v[0x00, 0x00, 0x00, 0x00, 0x00, 0x00, 0x0B, 0x02, 0x00, 0x00, 0x00, 0x00, 0x0D, 0x0A])) =
      some [0x28, 0x0, 11, 0, 0, 0, -4, 0, -4, 0, 0x4] ∧
    after (dec (loaded #v[0x00, 0x00, 0x00, 0x00, 0x00, 0x00, 0x0B, 0x01, 0x00, 0x00, 0x00, 0x00, 0x0D, 0x0A])) =
      some [0x8, 0x0, 11, 0, 0, 0, -4, 0, -4, 0, 0x8] ∧
    after (dec (loaded #v[0x00, 0x00, 0x00, 0x00, 0x00, 0x00, 0x0B, 0x00, 0x00, 0x08, 0x00, 0x00, 0x0D, 0x0A])) =
      some [0x8, 0x0, 11, 0, 0, 0, -4, 0, -4, 0, 0x10] ∧
    after (dec (loaded #v[0x00, 0x00, 0x00, 0x00, 0x00, 0x00, 0x0B, 0x00, 0x02, 0x00, 0x00, 0x00, 0x0D, 0x0A])) =
      some [0x28, 0x0, 11, 0, 0, 0, -4, 0, -4, 0, 0x20] ∧
    after (dec (loaded #v[0x00, 0x00, 0x00, 0x00, 0x00, 0x00, 0x0B, 0x00, 0x00, 0x04, 0x00, 0x00, 0x0D, 0x0A])) =
      some [0x28, 0x0, 11, 0, 0, 0, -4, 0, -4, 0, 0x40] := by
  decide

/-- V-F10 to V-F18 (42_flag_extractor.md). -/
theorem test_flag_vectors_high :
    after (dec (loaded #v[0x00, 0x00, 0x00, 0x00, 0x00, 0x00, 0x0B, 0x00, 0x00, 0x02, 0x00, 0x00, 0x0D, 0x0A])) =
      some [0x28, 0x0, 11, 0, 0, 0, -4, 0, -4, 0, 0x80] ∧
    after (dec (loaded #v[0x00, 0x00, 0x00, 0x00, 0x00, 0x00, 0x0B, 0x00, 0x00, 0x00, 0x08, 0x00, 0x0D, 0x0A])) =
      some [0x28, 0x0, 11, 0, 0, 0, -4, 0, -4, 0, 0x100] ∧
    after (dec (loaded #v[0x00, 0x00, 0x00, 0x00, 0x00, 0x00, 0x0B, 0x00, 0x00, 0x00, 0x04, 0x00, 0x0D, 0x0A])) =
      some [0x28, 0x0, 11, 0, 0, 0, -4, 0, -4, 0, 0x200] ∧
    after (dec (loaded #v[0x00, 0x00, 0x00, 0x00, 0x00, 0x00, 0x0B, 0x00, 0x00, 0x00, 0x02, 0x00, 0x0D, 0x0A])) =
      some [0x28, 0x0, 11, 0, 0, 0, -4, 0, -4, 0, 0x400] ∧
    after (dec (loaded #v[0x00, 0x00, 0x00, 0x00, 0x00, 0x00, 0x0B, 0x00, 0x00, 0x00, 0x01, 0x00, 0x0D, 0x0A])) =
      some [0x28, 0x0, 11, 2, 0, 0, -2, 12, -2, 12, 0x800] ∧
    after (dec (loaded #v[0x00, 0x00, 0x00, 0x00, 0x00, 0x00, 0x0B, 0x00, 0x00, 0x00, 0x00, 0x02, 0x0D, 0x0A])) =
      some [0x28, 0x0, 11, 0, 0, 0, -4, 0, -4, 0, 0x1000] ∧
    after (dec (loaded #v[0x00, 0x00, 0x00, 0x00, 0x00, 0x00, 0x0B, 0x0C, 0x02, 0x06, 0x0B, 0x02, 0x0D, 0x0A])) =
      some [0x28, 0x0, 11, 7, 1, 0, -1, 15, -1, 15, 0x1de3] ∧
    after (dec (loaded #v[0xF2, 0xF1, 0xF2, 0xF3, 0xF4, 0xF5, 0xFB, 0xFF, 0xF2, 0xFE, 0xFF, 0xF2, 0x0D, 0x0A])) =
      some [0x8, 0x0, 11, 7, 1, 12345, -1, 15, -1, 15, 0x1fff] ∧
    after (dec (loaded #v[0x00, 0x00, 0x02, 0x02, 0x00, 0x00, 0x0B, 0x00, 0x0D, 0x01, 0x00, 0x0D, 0x0D, 0x0A])) =
      some [0x28, 0x0, 11, 0, 0, 2200, -4, 0, -4, 0, 0x0] := by
  decide

/-- V-F4 and V-F5: LOWBAT_MASK 0x08. -/
theorem test_lowbat_mask_08 :
    after (dec (withMask08 <| loaded #v[0x00, 0x00, 0x00, 0x00, 0x00, 0x00, 0x0B, 0x02, 0x00, 0x00, 0x00, 0x00, 0x0D, 0x0A])) =
      some [0x28, 0x0, 11, 0, 0, 0, -4, 0, -4, 0, 0x0] ∧
    after (dec (withMask08 <| loaded #v[0x00, 0x00, 0x00, 0x00, 0x00, 0x00, 0x0B, 0x08, 0x00, 0x00, 0x00, 0x00, 0x0D, 0x0A])) =
      some [0x28, 0x0, 11, 7, 0, 0, -1, 15, -1, 15, 0x5] := by
  decide

/-- V-D5, V-D8, V-D10, V-D11, V-D12 (44_bcd_value_decoder.md). -/
theorem test_digit_vectors :
    after (dec (loaded #v[0x03, 0x09, 0x09, 0x09, 0x09, 0x09, 0x0B, 0x00, 0x00, 0x00, 0x00, 0x00, 0x0D, 0x0A])) =
      some [0x28, 0x0, 11, 5, 0, 99999, -1, 0, -1, 0, 0x0] ∧
    after (dec (loaded #v[0x00, 0x00, 0x00, 0x00, 0x00, 0x0F, 0x0B, 0x00, 0x00, 0x00, 0x00, 0x00, 0x0D, 0x0A])) =
      some [0x28, 0x0, 11, 0, 0, 15, -4, 0, -4, 0, 0x0] ∧
    after (dec (loaded #v[0x00, 0x0A, 0x00, 0x00, 0x00, 0x00, 0x0B, 0x00, 0x00, 0x00, 0x00, 0x00, 0x0D, 0x0A])) =
      some [0x28, 0x0, 11, 0, 0, 100000, -4, 0, -4, 0, 0x0] ∧
    after (dec (loaded #v[0x00, 0x0F, 0x0F, 0x0F, 0x0F, 0x0F, 0x0B, 0x00, 0x00, 0x00, 0x00, 0x00, 0x0D, 0x0A])) =
      some [0x28, 0x0, 11, 0, 0, 166665, -4, 0, -4, 0, 0x0] ∧
    after (dec (loaded #v[0x30, 0x3F, 0x3F, 0x3F, 0x3F, 0x3F, 0x3B, 0x35, 0x30, 0x30, 0x30, 0x32, 0x0D, 0x0A])) =
      some [0x8, 0x0, 11, 0, 1, 166665, -4, 0, -4, 0, 0x100a] := by
  decide

/-- V-M0b, V-M2b, V-M3b, V-M11b, V-O4, V-X1, V-X2 (60_exceptions.md). -/
theorem test_error_vectors :
    after (dec (loaded #v[0x01, 0x00, 0x01, 0x02, 0x03, 0x04, 0x00, 0x00, 0x00, 0x00, 0x00, 0x00, 0x0D, 0x0A])) =
      some [0x13, 0x10, 0, 0, 0, 0, 0, 0, 0, 0, 0x0] ∧
    after (dec (loaded #v[0x02, 0x01, 0x02, 0x03, 0x04, 0x05, 0x02, 0x00, 0x00, 0x00, 0x00, 0x00, 0x0D, 0x0A])) =
      some [0x13, 0x22, 0, 0, 0, 0, 0, 0, 0, 0, 0x0] ∧
    after (dec (loaded #v[0x07, 0x01, 0x00, 0x00, 0x00, 0x00, 0x03, 0x00, 0x00, 0x00, 0x00, 0x00, 0x0D, 0x0A])) =
      some [0x13, 0x73, 0, 0, 0, 0, 0, 0, 0, 0, 0x0] ∧
    after (dec (loaded #v[0x05, 0x01, 0x02, 0x03, 0x04, 0x05, 0x0B, 0x00, 0x00, 0x00, 0x00, 0x00, 0x0D, 0x0A])) =
      some [0x13, 0x5b, 0, 0, 0, 0, 0, 0, 0, 0, 0x0] ∧
    after (dec (loaded #v[0x02, 0x00, 0x00, 0x05, 0x00, 0x00, 0x0B, 0x00, 0x00, 0x00, 0x01, 0x00, 0x0D, 0x0A])) =
      some [0x13, 0x12b, 0, 0, 0, 0, 0, 0, 0, 0, 0x0] ∧
    after (dec (loaded #v[0x00, 0x00, 0x00, 0x00, 0x00, 0x00, 0x07, 0x00, 0x00, 0x00, 0x00, 0x00, 0x00, 0x00])) =
      some [0x1, 0xe, 0, 0, 0, 0, 0, 0, 0, 0, 0x0] ∧
    after (dec (loaded #v[0x05, 0x00, 0x00, 0x00, 0x00, 0x00, 0x07, 0x00, 0x00, 0x00, 0x00, 0x00, 0x0D, 0x0A])) =
      some [0x12, 0x7, 0, 0, 0, 0, 0, 0, 0, 0, 0x0] := by
  decide

/-- V-V8 to V-V12 (41_frame_validator.md). -/
theorem test_validator_vectors :
    after (dec (loaded #v[0x00, 0x00, 0x02, 0x02, 0x00, 0x00, 0x0B, 0x00, 0x00, 0x00, 0x00, 0x00, 0x0A, 0x0D])) =
      some [0x1, 0xe, 0, 0, 0, 0, 0, 0, 0, 0, 0x0] ∧
    after (dec (loaded #v[0x00, 0x00, 0x02, 0x02, 0x00, 0x00, 0x0B, 0x00, 0x00, 0x00, 0x00, 0x00, 0x0D, 0x0B])) =
      some [0x1, 0xe, 0, 0, 0, 0, 0, 0, 0, 0, 0x0] ∧
    after (dec (loaded #v[0x00, 0x00, 0x02, 0x02, 0x00, 0x00, 0x0B, 0x00, 0x00, 0x00, 0x00, 0x00, 0x8D, 0x0A])) =
      some [0x1, 0xe, 0, 0, 0, 0, 0, 0, 0, 0, 0x0] ∧
    after (dec (loaded #v[0x00, 0x00, 0x02, 0x02, 0x00, 0x00, 0x0B, 0x00, 0x00, 0x00, 0x00, 0x00, 0x0D, 0x0A])) =
      some [0x28, 0x0, 11, 0, 0, 2200, -4, 0, -4, 0, 0x0] ∧
    after (dec (loaded #v[0xFF, 0xFF, 0x02, 0x02, 0xF0, 0xF0, 0xFB, 0xF0, 0xF0, 0xF0, 0xF0, 0xF0, 0x0D, 0x0A])) =
      some [0x13, 0x7b, 0, 0, 0, 0, 0, 0, 0, 0, 0x0] := by
  decide

/-- V-N3, V-N7, V-N10, V-N11, V-N14 (45_unit_normalizer.md). -/
theorem test_normaliser_vectors :
    after (dec (loaded #v[0x00, 0x01, 0x02, 0x03, 0x04, 0x05, 0x0F, 0x00, 0x00, 0x00, 0x00, 0x00, 0x0D, 0x0A])) =
      some [0x28, 0x0, 15, 1, 0, 12345, -3, 3, -6, 2, 0x0] ∧
    after (dec (loaded #v[0x04, 0x01, 0x00, 0x00, 0x00, 0x00, 0x03, 0x00, 0x00, 0x00, 0x00, 0x00, 0x0D, 0x0A])) =
      some [0x28, 0x0, 3, 0, 0, 10000, -4, 7, 2, 5, 0x0] ∧
    after (dec (loaded #v[0x02, 0x01, 0x00, 0x00, 0x00, 0x00, 0x06, 0x00, 0x00, 0x00, 0x00, 0x00, 0x0D, 0x0A])) =
      some [0x28, 0x0, 6, 0, 0, 10000, -4, 10, -10, 8, 0x0] ∧
    after (dec (loaded #v[0x05, 0x01, 0x00, 0x00, 0x00, 0x00, 0x06, 0x00, 0x00, 0x00, 0x00, 0x00, 0x0D, 0x0A])) =
      some [0x28, 0x0, 6, 0, 0, 10000, -4, 11, -7, 8, 0x0] ∧
    after (dec (loaded #v[0x05, 0x01, 0x00, 0x00, 0x00, 0x00, 0x02, 0x00, 0x00, 0x00, 0x00, 0x00, 0x0D, 0x0A])) =
      some [0x28, 0x0, 2, 0, 0, 10000, -4, 14, 2, 12, 0x0] := by
  decide

/-- V-N16: an image whose selected slot has unit code 16. -/
theorem test_unknown_unit :
    after (dec (withRom romUnit16 <| loaded #v[0x00, 0x00, 0x02, 0x02, 0x00, 0x00, 0x0B, 0x00, 0x00, 0x00, 0x00, 0x00, 0x0D, 0x0A])) =
      some [0x14, 0xb, 0, 0, 0, 0, 0, 0, 0, 0, 0x0] := by
  decide

/-- R101 (h): unit codes 16 and 31, each with a NORMROM entry of its own. -/
theorem test_reserved_unit :
    after (dec (withRom romUnit16Entry (loaded good))) = some [0x14, 0xB, 0, 0, 0, 0, 0, 0, 0, 0, 0] ∧
    after (dec (withRom romUnit31Entry (loaded good))) = some [0x14, 0xB, 0, 0, 0, 0, 0, 0, 0, 0, 0] := by
  decide

/-! ## Witnesses: states and operands that meet the hypotheses of the statements -/

/-- The bytes of V-O1: percent set. -/
def percentFrame : FrameBytes :=
  #v[0x00, 0x00, 0x00, 0x05, 0x00, 0x00, 0x0B, 0x08, 0x00, 0x00, 0x00, 0x00, 0x0D, 0x0A]

/-- The bytes of V-O2: hz set. -/
def hzFrame : FrameBytes :=
  #v[0x01, 0x00, 0x00, 0x05, 0x00, 0x00, 0x0B, 0x00, 0x00, 0x00, 0x05, 0x00, 0x0D, 0x0A]

/-- The bytes of V-D7: all digits 0, minus set. -/
def negativeZero : FrameBytes :=
  #v[0x00, 0x00, 0x00, 0x00, 0x00, 0x00, 0x0B, 0x04, 0x00, 0x00, 0x00, 0x00, 0x0D, 0x0A]

/-- The bytes of V-F18: every unused bit set. -/
def unusedBits : FrameBytes :=
  #v[0x00, 0x00, 0x02, 0x02, 0x00, 0x00, 0x0B, 0x00, 0x0D, 0x01, 0x00, 0x0D, 0x0D, 0x0A]

/-- The bytes of V-M4, V-O5 and V-O6: the mode with no table, alone, with percent and with hz. -/
def noTable : FrameBytes :=
  #v[0x00, 0x00, 0x00, 0x02, 0x05, 0x00, 0x04, 0x00, 0x00, 0x00, 0x00, 0x00, 0x0D, 0x0A]
def noTablePct : FrameBytes :=
  #v[0x00, 0x00, 0x00, 0x02, 0x05, 0x00, 0x04, 0x08, 0x00, 0x00, 0x00, 0x00, 0x0D, 0x0A]
def noTableHz : FrameBytes :=
  #v[0x07, 0x00, 0x00, 0x05, 0x00, 0x00, 0x04, 0x00, 0x00, 0x00, 0x01, 0x00, 0x0D, 0x0A]

/-- The fields of a frame with no flag and digits 00000. -/
def plainFields (m : BitVec 4) : FrameFields :=
  ⟨m, false, false, ops 0 0 0 0 0 0⟩

/-- The slot and normalisation entry a table's slot 0 leads to. -/
def measurable (rom : Rom) (tid : BitVec 4) : Bool :=
  ((rom.slot tid 0#3).bind fun re => rom.norm re.unit).isSome

/-- The CODE after one instruction. -/
def codeAfter (i : Instr) (s : State) : Option (BitVec 3) :=
  match exec i s with
  | .next t => some t.code
  | _ => none

/-! Encodings. -/

theorem witness_TerminatedFrameMatchesExactlyOneRow :
    (good[12] = 0x0D#8 ∧ good[13] = 0x0A#8) ∧ ¬ (swapped[12] = 0x0D#8 ∧ swapped[13] = 0x0A#8) ∧
    ¬ ((good.set 13 0x0B)[12] = 0x0D#8 ∧ (good.set 13 0x0B)[13] = 0x0A#8) := by decide

theorem witness_UnframedCandidatesAreRejectedByName :
    ([] : List Byte).length ≠ 14 ∧ (good.toList.take 13).length ≠ 14 ∧ (good.toList ++ [0x00#8]).length ≠ 14 ∧
    ¬ (swapped[12] = 0x0D#8 ∧ swapped[13] = 0x0A#8) := by decide

theorem witness_DecodedInstructionsAreClassesOfTheDefaultRom :
    decode (.cmd 0x13B#10) = .ok (.push 0x3B#8) ∧ decode (.frame good.toList) = .ok (.decV (ops 0 0 2 2 0 0)) ∧
    decode (.frame undefinedMode.toList) = .ok (.decRsvd7 true false (ops 0 0 0 0 0 0)) := ⟨rfl, rfl, rfl⟩

/-! Port commands, the step and reset. -/

theorem witness_PushStoresTheByteOrSaturates :
    State.reset.len.toNat < 14 ∧ ({ State.reset with len := 13#4 } : State).len.toNat < 14 ∧
    14 ≤ (loaded good).len.toNat ∧ 14 ≤ ({ State.reset with len := 15#4 } : State).len.toNat := by decide

theorem witness_PushLeavesEverythingElse :
    (∃ t, exec (.push 0x3B) State.reset = .next t) ∧ 0 = State.reset.len.toNat ∧ 13 ≠ State.reset.len.toNat ∧
    (∃ t, exec (.push 0x3B) (loaded good) = .next t) ∧ 13 ≠ (loaded good).len.toNat :=
  ⟨⟨_, rfl⟩, rfl, by decide, ⟨_, rfl⟩, by decide⟩

theorem witness_ResetValuesAreTheSpecified :
    State.reset = State.reset ∧ ∃ s t, exec .rst s = .next t :=
  ⟨rfl, loaded good, _, rfl⟩

theorem witness_StepRunsTheDecodedInstruction :
    State.reset.port = [] ∧
    ((cmd 0x13B (loaded good)).port = 0x13B#10 :: [] ∧ decode (.cmd 0x13B#10) = .ok (.push 0x3B#8) ∧
      Instr.push 0x3B#8 ≠ .dec) ∧
    ((dec (loaded good)).port = 0x200#10 :: [] ∧ decode (.cmd 0x200#10) = .ok .dec ∧ (dec (loaded good)).len = 14#4 ∧
      decode (.frame (dec (loaded good)).fb.toList) = .ok (.decV (ops 0 0 2 2 0 0))) ∧
    ((dec (loaded swapped)).port = 0x200#10 :: [] ∧ ¬ (dec (loaded swapped)).Validated) ∧
    ¬ (dec { loaded good with len := 13#4 }).Validated ∧ ¬ (dec { loaded good with len := 15#4 }).Validated :=
  ⟨rfl, ⟨rfl, rfl, by decide⟩, ⟨rfl, rfl, rfl, rfl⟩, ⟨rfl, by decide⟩, by decide, by decide⟩

theorem witness_StepRunsTheCommandAndCompletes :
    (cmd 0x0AA State.reset).port = (0b00#2 ++ 0xAA#8) :: [] ∧ (cmd 0x13B State.reset).port = (0b01#2 ++ 0x3B#8) :: [] ∧
    (cmd 0x2FF State.reset).port = (0b10#2 ++ 0xFF#8) :: [] ∧ (cmd 0x3FF State.reset).port = (0b11#2 ++ 0xFF#8) :: [] :=
  ⟨rfl, rfl, rfl, rfl⟩

theorem witness_PushesFillTheBufferInOrder : State.reset.len = 0#4 := rfl

theorem witness_SendRunsTheClassOfItsFrame :
    State.reset.len = 0#4 ∧ (Instr.decV (ops 0 0 0 0 0 0)).fields = some (plainFields 0xB) ∧
    (Instr.decRsvd7 false false (ops 0 0 0 0 0 0)).fields = some (plainFields 0x7) := ⟨rfl, rfl, rfl⟩

theorem witness_LoadingKeepsTheEarlierResult :
    ((cmd 0x0AA (loaded good)).port = (0b00#2 ++ 0xAA#8) :: [] ∧ (0b00#2 = 0b00#2 ∨ 0b00#2 = 0b01#2)) ∧
    ((cmd 0x13B (loaded good)).port = (0b01#2 ++ 0x3B#8) :: [] ∧ (0b01#2 = 0b00#2 ∨ 0b01#2 = 0b01#2)) :=
  ⟨⟨rfl, by decide⟩, rfl, by decide⟩

theorem witness_HostReadsExactlyTheResultRegisters :
    (∀ r : HostReg, State.reset.hostRead r = (loaded good).hostRead r) ∧ SameResults State.reset (loaded good) ∧
    ¬ SameResults State.reset { State.reset with status := 0x01#6 } :=
  ⟨fun r => by cases r <;> rfl, by decide, by decide⟩

theorem witness_NoInstructionWritesATable :
    (∃ t, exec .rst (loaded good) = .next t) ∧ (∃ t, step State.reset = .next t) ∧
    ∃ t, step (dec (loaded good)) = .next t := ⟨⟨_, rfl⟩, ⟨_, rfl⟩, _, rfl⟩

/-! DEC. -/

theorem witness_DecOfAValidatedFrameIsItsClass :
    (loaded good).len = 14#4 ∧ decode (.frame (loaded good).fb.toList) = .ok (.decV (ops 0 0 2 2 0 0)) := ⟨rfl, rfl⟩

theorem witness_DecodingLeavesTheBufferAndEmptiesIt :
    (Instr.dec = .dec ∨ Instr.dec.fields.isSome) ∧ (Instr.decV (ops 0 0 2 2 0 0)).fields.isSome := by decide

theorem witness_UnvalidatedCandidateIsInvalid :
    ¬ State.reset.Validated ∧ ¬ ({ loaded good with len := 13#4 } : State).Validated ∧
    ¬ ({ loaded good with len := 15#4 } : State).Validated ∧ ¬ (loaded swapped).Validated ∧
    (loaded good).Validated := by decide

theorem witness_BadCandidateIsInvalidAndNeverAFailure : State.reset.len = 0#4 ∧
    ∀ bytes ∈ [[], good.toList.take 13, swapped.toList, good.toList ++ [0x00#8]],
      ¬ (bytes.length = 14 ∧ bytes[12]? = some 0x0D#8 ∧ bytes[13]? = some 0x0A#8) := by decide

theorem witness_InvalidOutcomeIgnoresTheFrameBytes :
    ¬ (loaded swapped).Validated ∧ (loaded (swapped.set 0 0x7F)).len = (loaded swapped).len ∧
    (loaded (swapped.set 0 0x7F)).fb[12] = (loaded swapped).fb[12] ∧
    (loaded (swapped.set 0 0x7F)).fb[13] = (loaded swapped).fb[13] := by decide

theorem witness_ValidatedFrameIsMeasured :
    ((loaded good).Validated ∧ romDefault.mode (loaded good).selector = some ⟨1⟩ ∧
      romDefault.slot (tableId romDefault (loaded good).percentBit (loaded good).hzBit ⟨1⟩) (loaded good).rangeIndex =
        RomDefault.present 0 0 (-4) ∧ romDefault.norm 0#5 = RomDefault.scaled 0 0) ∧
    ((loaded percentFrame).Validated ∧ romDefault.mode (loaded percentFrame).selector = some ⟨1⟩ ∧
      romDefault.slot (tableId romDefault (loaded percentFrame).percentBit (loaded percentFrame).hzBit ⟨1⟩)
        (loaded percentFrame).rangeIndex = RomDefault.present 7 15 (-1) ∧
      romDefault.norm 15#5 = RomDefault.scaled 0 15) ∧
    ((loaded hzFrame).Validated ∧ romDefault.mode (loaded hzFrame).selector = some ⟨1⟩ ∧
      romDefault.slot (tableId romDefault (loaded hzFrame).percentBit (loaded hzFrame).hzBit ⟨1⟩)
        (loaded hzFrame).rangeIndex = RomDefault.present 3 12 (-1) ∧
      romDefault.norm 12#5 = RomDefault.scaled 0 12) := by decide

theorem witness_UndefinedModeIsReported :
    (loaded undefinedMode).Validated ∧ romDefault.mode (loaded undefinedMode).selector = none ∧
    (loaded good).Validated ∧ romDefault.mode (loaded good).selector ≠ none := by decide

theorem witness_AbsentSlotIsReported :
    ((loaded absentSlot).Validated ∧ romDefault.mode (loaded absentSlot).selector = some ⟨1⟩ ∧
      romDefault.slot (tableId romDefault (loaded absentSlot).percentBit (loaded absentSlot).hzBit ⟨1⟩)
        (loaded absentSlot).rangeIndex = none) ∧
    romDefault.slot (tableId romDefault (loaded good).percentBit (loaded good).hzBit ⟨1⟩) (loaded good).rangeIndex ≠
      none := by decide

theorem witness_UnknownUnitIsReported :
    ((loaded good).Validated ∧ romUnit16.mode (loaded good).selector = some ⟨1⟩ ∧
      romUnit16.slot (tableId romUnit16 (loaded good).percentBit (loaded good).hzBit ⟨1⟩) (loaded good).rangeIndex =
        RomDefault.present 0 16 (-4) ∧ romUnit16.norm 16#5 = none) ∧
    romDefault.norm 0#5 ≠ none := by decide

theorem witness_DecIsAFunctionOfTheCandidate :
    ((loaded good).len = (loaded good).len ∧ (loaded good).fb = ({ loaded good with status := 1#6 } : State).fb) ∧
    ({ loaded good with len := 13#4 } : State).len = ({ loaded swapped with len := 13#4 } : State).len ∧
    ({ loaded good with len := 13#4 } : State).len ≠ 14#4 := by decide

theorem witness_UnusedFrameBitsDoNotMatter :
    (loaded good).Validated ∧ (loaded unusedBits).Validated ∧ (loaded unusedBits).fb ≠ (loaded good).fb ∧
    unusedBits[0].extractLsb' 0 3 = good[0].extractLsb' 0 3 ∧
    (∀ (k : Nat) (h : k < 14), k ∈ [1, 2, 3, 4, 5, 6, 7, 10] →
      unusedBits[k].extractLsb' 0 4 = good[k].extractLsb' 0 4) ∧
    unusedBits[8].getLsbD 1 = good[8].getLsbD 1 ∧ unusedBits[9].extractLsb' 1 3 = good[9].extractLsb' 1 3 ∧
    unusedBits[11].getLsbD 1 = good[11].getLsbD 1 := by decide

/-- The two cases of CODE, and OK under each value of LOWBAT_MASK. -/
theorem witness_OutcomesOccur :
    codeAfter .dec (loaded good) = some 0#3 ∧ codeAfter .dec (withMask08 (loaded good)) = some 0#3 ∧
    codeAfter .dec State.reset = some 1#3 ∧ codeAfter .dec (loaded undefinedMode) = some 2#3 ∧
    codeAfter .dec (loaded absentSlot) = some 3#3 ∧ codeAfter .dec (withRom romUnit16 (loaded good)) = some 4#3 := by
  decide

theorem witness_FlagsAreCopiesOfTheirFrameBits :
    (loaded good).config.lowbatMask = .bit1 ∧ codeAfter .dec (loaded good) = some 0#3 ∧
    (withMask08 (loaded good)).config.lowbatMask = .bit3 ∧ codeAfter .dec (withMask08 (loaded good)) = some 0#3 ∧
    codeAfter .dec State.reset = some 1#3 := by decide

theorem witness_LowBatteryFollowsItsMask :
    (loaded good).config.lowbatMask = .bit1 ∧ codeAfter .dec (loaded good) = some 0#3 ∧
    (withMask08 (loaded percentFrame)).config.lowbatMask = .bit3 ∧
    codeAfter .dec (withMask08 (loaded percentFrame)) = some 0#3 := by decide

theorem witness_MeanTellsWhetherTheDigitsAreMeaningful :
    (Instr.decV (ops 0 0 0 0 0 0)).fields = some (plainFields 0xB) ∧
    (Instr.decV { ops 0 0 0 0 0 0 with overload := true }).fields =
      some { plainFields 0xB with ops := { (plainFields 0xB).ops with overload := true, underload := false } } :=
  ⟨rfl, rfl⟩

/-! Lookup. -/

theorem witness_OverridesSelectTheTable :
    ((loaded percentFrame).Validated ∧ romDefault.mode (loaded percentFrame).selector = some ⟨1⟩ ∧
      (loaded percentFrame).percentBit = true ∧ romDefault.slot 9#4 (loaded percentFrame).rangeIndex ≠ none) ∧
    ((loaded hzFrame).Validated ∧ (loaded hzFrame).percentBit = false ∧ (loaded hzFrame).hzBit = true ∧
      romDefault.slot 8#4 (loaded hzFrame).rangeIndex ≠ none ∧
      romDefault.slot 8#4 (loaded absentSlot).rangeIndex = none) ∧
    ((loaded good).Validated ∧ (loaded good).percentBit = false ∧ (loaded good).hzBit = false) ∧
    ((loaded unusedBits).selector = (loaded good).selector ∧
      (loaded unusedBits).percentBit = (loaded good).percentBit ∧ (loaded unusedBits).hzBit = (loaded good).hzBit ∧
      (loaded unusedBits).rangeIndex = (loaded good).rangeIndex) := by decide

theorem witness_ModeWithoutTableNeedsAnOverride :
    romDefault.W1 ∧
    ((loaded noTable).Validated ∧ romDefault.mode (loaded noTable).selector = some ⟨0⟩ ∧
      (loaded noTable).percentBit = false ∧ (loaded noTable).hzBit = false) ∧
    ((loaded noTablePct).Validated ∧ romDefault.mode (loaded noTablePct).selector = some ⟨0⟩ ∧
      (loaded noTablePct).percentBit = true ∧
      romDefault.slot romDefault.pctTid (loaded noTablePct).rangeIndex = RomDefault.present 7 15 (-1) ∧
      romDefault.norm 15#5 = RomDefault.scaled 0 15) ∧
    ((loaded noTableHz).Validated ∧ romDefault.mode (loaded noTableHz).selector = some ⟨0⟩ ∧
      (loaded noTableHz).percentBit = false ∧ (loaded noTableHz).hzBit = true ∧
      romDefault.slot romDefault.hzTid (loaded noTableHz).rangeIndex = RomDefault.present 2 14 (-2) ∧
      romDefault.norm 14#5 = RomDefault.scaled 6 12) := by decide

theorem witness_DefaultRomSlotsOfEachClass :
    State.reset.config = configDefault ∧
    ((ops 0 0 0 0 0 0).ridx == 0#3) = true ∧ ((ops 1 0 0 0 0 0).ridx == 0#3) = false ∧
    codeAfter (.decA10 (ops 0 0 0 0 0 0)) State.reset = some 0#3 ∧
    codeAfter (.decA10 (ops 1 0 0 0 0 0)) State.reset = some 3#3 := ⟨rfl, by decide, by decide, by decide, by decide⟩

/-! Value and normalisation. -/

theorem witness_AccumulatorNeverOverflows :
    (∀ d ∈ digits (ops 0 9 9 9 9 9), d.toNat ≤ 9) ∧ (accumulate (ops 0 9 9 9 9 9)).toNat = 99999 ∧
    (accumulate (ops 0 15 15 15 15 15)).toNat = 166665 := by decide

theorem witness_DisplayedValueEquation :
    (loaded negativeZero).Validated ∧ romDefault.mode (loaded negativeZero).selector = some ⟨1⟩ ∧
    romDefault.slot (tableId romDefault (loaded negativeZero).percentBit (loaded negativeZero).hzBit ⟨1⟩)
      (loaded negativeZero).rangeIndex = RomDefault.present 0 0 (-4) ∧
    codeAfter .dec (loaded negativeZero) = some 0#3 := by decide

theorem witness_NegativeZeroIsKept :
    codeAfter .dec (loaded negativeZero) = some 0#3 ∧ (loaded negativeZero).fb[7].getLsbD 2 = true ∧
    magnitude (loaded negativeZero).operands = 0 := by decide

theorem witness_NormalisationIsIdempotent :
    romDefault.W3 ∧ romDefault.norm 1#5 = some ⟨BitVec.ofInt 5 (-3), 0#5⟩ ∧
    codeAfter .dec (loaded good) = some 0#3 := by decide

theorem witness_InternalErrorNeedsAnInadmissibleRom : (loaded good).config.rom.Admissible :=
  smoke_admissible.1

/-- For NormalisedValueIsTheScaledDisplayedValue, NormalisedExponentRange and DisplayedPrecisionIsTheTemplates. -/
theorem witness_DefaultConfigMeasures :
    (loaded good).config = configDefault ∧ codeAfter .dec (loaded good) = some 0#3 := by decide

/-! The frame classes. -/

theorem witness_OwnTableClassesMeasure :
    (∀ m ∈ [0x0#4, 0x1#4, 0x2#4, 0x3#4, 0x5#4, 0x6#4, 0x9#4, 0xB#4, 0xD#4, 0xF#4],
      ((romDefault.mode m).map fun me => measurable romDefault me.tid) = some true) ∧
    ∀ m ∈ [0x4#4, 0xE#4], ((romTemp.mode m).map fun me => measurable romTemp me.tid) = some true := by decide

theorem witness_FrequencyClassesMeasure :
    (∀ m ∈ [0x0#4, 0x1#4, 0x2#4, 0x3#4, 0x4#4, 0x5#4, 0x6#4, 0x9#4, 0xB#4, 0xD#4, 0xE#4, 0xF#4],
      (romDefault.mode m).isSome = true) ∧ measurable romDefault romDefault.hzTid = true := by decide

theorem witness_PercentClassesMeasure :
    (∀ m ∈ [0x0#4, 0x1#4, 0x2#4, 0x3#4, 0x4#4, 0x5#4, 0x6#4, 0x9#4, 0xB#4, 0xD#4, 0xE#4, 0xF#4],
      (romDefault.mode m).isSome = true) ∧ measurable romDefault romDefault.pctTid = true := by decide

theorem witness_ReservedClassesReportUnsupportedMode :
    ∀ i ∈ [Instr.decRsvd7 true false (ops 0 0 0 0 0 0), .decRsvd8 false true (ops 7 9 9 9 9 9),
        .decRsvd10 false false (ops 0 0 0 0 0 0), .decRsvd12 true true (ops 0 15 0 0 0 0)],
      i.wf State.reset.config.rom = true := by decide

theorem witness_TablelessClassesReportUnsupportedRange :
    State.reset.config.rom.W1 ∧ State.reset.config.rom.mode 0x4#4 = some ⟨0#4⟩ ∧
    State.reset.config.rom.mode 0xE#4 = some ⟨0#4⟩ := by decide

theorem witness_FrameClassesTakeTheFirstCondition :
    ((Instr.decRsvd7 false false (ops 0 0 0 0 0 0)).fields = some (plainFields 0x7) ∧ romDefault.mode 0x7#4 = none) ∧
    ((Instr.decTemp (ops 0 0 0 0 0 0)).fields = some (plainFields 0x4) ∧ romDefault.mode 0x4#4 = some ⟨0⟩ ∧
      romDefault.slot (tableId romDefault false false ⟨0⟩) 0#3 = none) ∧
    ((Instr.decV (ops 0 0 0 0 0 0)).fields = some (plainFields 0xB) ∧ romUnit16.mode 0xB#4 = some ⟨1⟩ ∧
      romUnit16.slot (tableId romUnit16 false false ⟨1⟩) 0#3 = RomDefault.present 0 16 (-4) ∧
      romUnit16.norm 16#5 = none) := by decide

theorem witness_PinnedVoltageRange :
    State.reset.config.rom.Admissible ∧ (ops 0 0 2 2 0 0).ridx = 0#3 ∧
    (withRom romTemp State.reset).config.rom.Admissible :=
  ⟨smoke_admissible.1, rfl, smoke_admissible.2⟩

theorem witness_PinnedMicroampRange :
    State.reset.config.rom.Admissible ∧ ({ ops 1 0 2 2 0 0 with minus := true } : FrameOps).ridx = 1#3 :=
  ⟨smoke_admissible.1, rfl⟩

/-- The invariant holds of a state with a loaded candidate and no result, and of one with the result of V-S1. -/
theorem witness_StepKeepsTheResultsConsistent :
    (dec (loaded good)).Inv ∧ (∃ t, step (dec (loaded good)) = .next t) ∧
    ({ loaded good with status := 0x28#6, msel := 0xB#4, mag := 2200#18, dexp := 0xC#4, nexp := 0x3C#6 } :
      State).Inv := by
  refine ⟨by decide, ⟨_, rfl⟩, by decide⟩

theorem witness_NoErrorIsSticky : (Instr.decV (ops 0 0 0 0 0 0)).fields = some (plainFields 0xB) := rfl

/-- A selected slot at each end of the reserved range, under images that hold an entry there, for DEC, for a mode's class
and for a RSVD class of a selector the image defines; and the last clause's premises under ROM_DEFAULT. -/
theorem witness_ReservedUnitCodesAreInternalErrors :
    ((loaded good).Validated ∧ 16 ≤ (16#5).toNat ∧ romUnit16Entry.mode (loaded good).selector = some ⟨1⟩ ∧
      romUnit16Entry.slot (tableId romUnit16Entry (loaded good).percentBit (loaded good).hzBit ⟨1⟩)
        (loaded good).rangeIndex = RomDefault.present 0 16 (-4)) ∧
    (16 ≤ (31#5).toNat ∧ romUnit31Entry.mode (loaded good).selector = some ⟨1⟩ ∧
      romUnit31Entry.slot (tableId romUnit31Entry (loaded good).percentBit (loaded good).hzBit ⟨1⟩)
        (loaded good).rangeIndex = RomDefault.present 0 31 (-4)) ∧
    ((Instr.decV (ops 0 0 0 0 0 0)).fields = some (plainFields 0xB) ∧
      romUnit16.mode (plainFields 0xB).msel = some ⟨1⟩ ∧
      romUnit16.slot (tableId romUnit16 false false ⟨1⟩) (plainFields 0xB).ops.ridx = RomDefault.present 0 16 (-4)) ∧
    ((Instr.decRsvd7 false false (ops 0 0 0 0 0 0)).fields = some (plainFields 0x7) ∧
      romRsvd7Unit31.mode (plainFields 0x7).msel = some ⟨1⟩ ∧
      romRsvd7Unit31.slot (tableId romRsvd7Unit31 false false ⟨1⟩) (plainFields 0x7).ops.ridx =
        RomDefault.present 0 31 (-4)) ∧
    romDefault.slot 9#4 7#3 = RomDefault.present 7 15 (-1) ∧ romDefault.W3 ∧
    codeAfter .dec (loaded good) = some 0#3 := by decide

theorem witness_ReservedUnitCodes_admissible : romDefault.Admissible := smoke_admissible.1

end Sys2Proof.Tests
end

section
/-! SUPPORT. The statements of 10_state.md: the invariant of the result registers (R37), the reset values (R35) and FLAGS
(R31). What one step and one DEC can do is said once, and the statements follow from that. -/

namespace Sys2Proof.Machine

/-! ## What one step can do -/

/-- A command word is one of the four port commands (30_encoding.md R91). -/
theorem decodeCmd_cases (c : CmdWord) :
    decodeCmd c = .nop ∨ (∃ b, decodeCmd c = .push b) ∨ decodeCmd c = .dec ∨ decodeCmd c = .rst := by
  unfold decodeCmd
  split <;> simp

/-- A presented DEC has the effect of the port command, whether or not it runs as a frame class
(40_port_operations.md R123, 30_encoding.md R90). -/
theorem exec_fetchDec (s : State) : exec s.fetchDec s.popPort = exec .dec s.popPort := by
  by_cases h : s.Validated
  · have hp : s.popPort.Validated := h
    rw [fetchDec_of_validated h, exec_of_fields (fields_classOf _), frameFields_eq]
    exact congrArg Host.Outcome.next (commit_of_validated hp).symm
  · rw [fetchDec_of_not_validated h]

/-- Everything a step can do: keep the state where no command is presented, or run one of the four commands. -/
theorem step_cases {s t : State} (h : step s = .next t) :
    t = s ∨ t = s.popPort ∨ (∃ b, t = s.popPort.pushByte b) ∨ t = s.popPort.rst ∨
    exec .dec s.popPort = .next t := by
  cases hp : s.port with
  | nil =>
    rw [step_of_empty hp, Host.Outcome.next.injEq] at h
    exact .inl h.symm
  | cons c rest =>
    rw [step_of_port hp, State.fetchWord] at h
    rcases decodeCmd_cases c with hc | ⟨b, hc⟩ | hc | hc <;> simp only [hc, reduceCtorEq, if_true, if_false] at h
    · exact .inr (.inl (Host.Outcome.next.inj h).symm)
    · exact .inr (.inr (.inl ⟨b, (Host.Outcome.next.inj h).symm⟩))
    · exact .inr (.inr (.inr (.inr (exec_fetchDec s ▸ h))))
    · exact .inr (.inr (.inr (.inl (Host.Outcome.next.inj h).symm)))

/-- PUSH leaves the results, the configuration and the port (40_port_operations.md R122). -/
theorem pushByte_frame (s : State) (b : Byte) :
    SameResults (s.pushByte b) s ∧ (s.pushByte b).config = s.config ∧ (s.pushByte b).port = s.port := by
  rcases Nat.lt_or_ge s.len.toNat 14 with h | h
  · simp [SameResults, pushByte_of_lt h]
  · simp [SameResults, pushByte_of_ge h]

/-! ## What DEC can do -/

/-- The STATUS words of a state without a result: the four error conditions and NO_RESULT (60_exceptions.md R231,
10_state.md R35). -/
def noResultStatus : List (BitVec 6) :=
  [0x01#6, 0x12#6, 0x13#6, 0x14#6, 0x07#6]

/-- The fields of a STATUS word without a result. -/
theorem noResultStatus_fields :
    ∀ w ∈ noResultStatus,
      w.extractLsb' 0 3 ≠ 0#3 ∧ w.extractLsb' 0 3 ≠ 5#3 ∧ w.extractLsb' 0 3 ≠ 6#3 ∧
      w.getLsbD 3 = false ∧ w.getLsbD 5 = false ∧
      (w.getLsbD 4 = true ↔ w.extractLsb' 0 3 = 2#3 ∨ w.extractLsb' 0 3 = 3#3 ∨ w.extractLsb' 0 3 = 4#3) := by
  decide

/-- Everything the DEC of a validated frame leaves: an error condition, or the measurement of the entries it met. -/
theorem runFrame_error_or_ok (s : State) (f : FrameFields) :
    (∃ w ∈ noResultStatus, ∃ e, s.runFrame f = s.withError w e) ∨
    ∃ me re ne, s.config.rom.mode f.msel = some me ∧ s.config.rom.norm re.unit = some ne ∧
      s.runFrame f = s.withOk f.msel f.percent f.hz f.ops re ne := by
  rcases runFrame_cases s f with ⟨-, h⟩ | ⟨me, hm, ⟨-, h⟩ | ⟨re, -, ⟨-, h⟩ | ⟨ne, hn, h⟩⟩⟩
  · exact .inl ⟨_, by decide, _, h⟩
  · exact .inl ⟨_, by decide, _, h⟩
  · exact .inl ⟨_, by decide, _, h⟩
  · exact .inr ⟨me, re, ne, hm, hn, h⟩

/-- DEC over a validated candidate measures the fields of the buffer. -/
theorem exec_dec_of_validated {s : State} (h : s.Validated) :
    exec .dec s = .next (s.runFrame ⟨s.selector, s.percentBit, s.hzBit, s.operands⟩) :=
  congrArg Host.Outcome.next (commit_of_validated h)

/-- Everything a DEC leaves: an error condition, or the measurement of the frame in the buffer. -/
theorem exec_dec_error_or_ok (s : State) :
    (∃ w ∈ noResultStatus, ∃ e, exec .dec s = .next (s.withError w e)) ∨
    ∃ me re ne, s.config.rom.mode s.selector = some me ∧ s.config.rom.norm re.unit = some ne ∧
      exec .dec s = .next (s.withOk s.selector s.percentBit s.hzBit s.operands re ne) := by
  by_cases hv : s.Validated
  · rw [exec_dec_of_validated hv]
    rcases runFrame_error_or_ok s ⟨s.selector, s.percentBit, s.hzBit, s.operands⟩ with
      ⟨w, hw, e, h⟩ | ⟨me, re, ne, hm, hn, h⟩
    · exact .inl ⟨w, hw, e, by rw [h]⟩
    · exact .inr ⟨me, re, ne, hm, hn, by rw [h]⟩
  · exact .inl ⟨_, by decide, _, congrArg Host.Outcome.next (commit_of_not_validated hv)⟩

/-! ## STATUS and FLAGS of a measurement -/

section
variable (s : State) (msel : BitVec 4) (percent hz : Bool) (o : FrameOps) (re : RangeEntry) (ne : NormEntry)

/-- The STATUS word of a measurement, by its fields (10_state.md R25). -/
theorem withOk_status :
    (s.withOk msel percent hz o re ne).status = statusWord 0#3 true false (!(o.overload || o.underload)) := by
  simp only [State.withOk]
  cases o.overload || o.underload <;> rfl

@[simp] theorem withOk_code : (s.withOk msel percent hz o re ne).code = 0#3 := by
  simp only [State.code, withOk_status, statusWord_fields]

@[simp] theorem withOk_valid : (s.withOk msel percent hz o re ne).valid = true := by
  simp only [State.valid, withOk_status, statusWord_fields]

@[simp] theorem withOk_fail : (s.withOk msel percent hz o re ne).fail = false := by
  simp only [State.fail, withOk_status, statusWord_fields]

@[simp] theorem withOk_mean : (s.withOk msel percent hz o re ne).mean = !(o.overload || o.underload) := by
  simp only [State.mean, withOk_status, statusWord_fields]

/-- FLAGS of a measurement is the word of the extracted flags (42_flag_extractor.md R141 to R154). -/
theorem withOk_flags :
    (s.withOk msel percent hz o re ne).flags =
      (extractFlags s.config.lowbatMask ⟨msel, percent, hz, o⟩).word :=
  (Flags.word_eq s.config.lowbatMask ⟨msel, percent, hz, o⟩).symm

/-- Each bit of FLAGS of a measurement is its frame field (10_state.md R31). -/
theorem withOk_flags_bits :
    let t := s.withOk msel percent hz o re ne
    t.flags.getLsbD 0 = percent ∧ t.flags.getLsbD 1 = o.minus ∧
    t.flags.getLsbD 2 = lowbatFlag s.config.lowbatMask ⟨msel, percent, hz, o⟩ ∧
    t.flags.getLsbD 3 = o.overload ∧ t.flags.getLsbD 4 = o.underload ∧ t.flags.getLsbD 5 = o.rel ∧
    t.flags.getLsbD 6 = o.max ∧ t.flags.getLsbD 7 = o.min ∧ t.flags.getLsbD 8 = o.dc ∧
    t.flags.getLsbD 9 = o.ac ∧ t.flags.getLsbD 10 = o.auto ∧ t.flags.getLsbD 11 = hz ∧
    t.flags.getLsbD 12 = o.hold := by
  simp only [withOk_flags]
  exact Flags.word_bits _

end

/-! ## The invariant, operation by operation -/

/-- The invariant speaks of the results and the configuration alone. -/
theorem inv_congr {s t : State} (hr : SameResults s t) (hc : s.config = t.config) (h : t.Inv) : s.Inv := by
  obtain ⟨h1, h2, h3, h4, h5, h6, h7, h8, h9, h10, h11⟩ := hr
  simpa only [State.Inv, State.CodeInv, State.ClearedInv, State.ResultInv, State.code, State.valid, State.fail,
    State.mean, h1, h2, h3, h4, h5, h6, h7, h8, h9, h10, h11, hc] using h

/-- A state without a result meets the invariant. -/
theorem inv_withError (s : State) {w : BitVec 6} (hw : w ∈ noResultStatus) (e : BitVec 9) :
    (s.withError w e).Inv := by
  obtain ⟨h0, h5, h6, hvalid, hmean, hfail⟩ := noResultStatus_fields w hw
  have hv : (s.withError w e).valid = true ↔ (s.withError w e).code = 0#3 :=
    ⟨fun h => absurd (hvalid.symm.trans h) (by decide), fun h => absurd h h0⟩
  exact ⟨⟨hv, hfail, h5, h6⟩, fun _ => ⟨rfl, rfl, rfl, rfl, rfl, rfl, rfl, rfl, rfl, hmean⟩,
    fun h => absurd h h0⟩

/-- RST leaves the results of a state without a result, CODE 7 and EINFO 0. -/
theorem rst_sameResults (s : State) : SameResults s.rst (s.withError 0x07#6 0#9) :=
  ⟨rfl, rfl, rfl, rfl, rfl, rfl, rfl, rfl, rfl, rfl, rfl⟩

theorem inv_rst (s : State) : s.rst.Inv :=
  inv_congr (rst_sameResults s) rfl (inv_withError s (by decide) 0#9)

/-- A measurement meets the invariant where its mode is defined and its unit has the entry it was normalised by. -/
theorem inv_withOk (s : State) {msel : BitVec 4} {me : ModeEntry} {re : RangeEntry} {ne : NormEntry}
    (hm : s.config.rom.mode msel = some me) (hn : s.config.rom.norm re.unit = some ne)
    (percent hz : Bool) (o : FrameOps) : (s.withOk msel percent hz o re ne).Inv := by
  obtain ⟨-, hminus, -, hover, hunder, -⟩ := withOk_flags_bits s msel percent hz o re ne
  refine ⟨by simp [State.CodeInv], fun h => absurd (withOk_code ..) h, fun _ => ⟨rfl, ?_, ?_, ?_, ?_, ?_⟩⟩
  · exact Option.isSome_of_eq_some hm
  · rw [hminus]
    simp only [State.withOk]
    cases o.minus <;> rfl
  · exact (BitVec.toNat_ofNat ..).trans_le ((Nat.mod_le _ _).trans (magnitude_le o))
  · exact ⟨ne, hn, (nexp_toInt re.sexp ne.exp).1, rfl⟩
  · rw [hover, hunder, withOk_mean]

/-- DEC meets the invariant from every state, whatever its results were. -/
theorem inv_of_exec_dec {s t : State} (h : exec .dec s = .next t) : t.Inv := by
  rcases exec_dec_error_or_ok s with ⟨w, hw, e, he⟩ | ⟨me, re, ne, hm, hn, ho⟩
  · obtain rfl := Host.Outcome.next.inj (he.symm.trans h)
    exact inv_withError s hw e
  · obtain rfl := Host.Outcome.next.inj (ho.symm.trans h)
    exact inv_withOk s hm hn ..

/-- Settles O57, by what a step can do: NOP and PUSH keep the results, RST and DEC establish the invariant afresh. -/
theorem stepKeepsTheResultsConsistent : Obligations.StepKeepsTheResultsConsistent := by
  intro s t hs h
  have hpop : s.popPort.Inv := hs
  rcases step_cases h with rfl | rfl | ⟨b, rfl⟩ | rfl | hdec
  · exact hs
  · exact hpop
  · obtain ⟨hr, hc, -⟩ := pushByte_frame s.popPort b
    exact inv_congr hr hc hpop
  · exact inv_rst _
  · exact inv_of_exec_dec hdec

/-! ## Reset -/

/-- Power-up and RST are the same event (70_reset_and_hazards.md R260). -/
theorem reset_rst : State.reset.rst = State.reset := rfl

/-- Settles O56: the reset state is one that RST answers. -/
theorem resetStateIsConsistent : Obligations.ResetStateIsConsistent :=
  inv_rst State.reset

/-- The values RST answers (10_state.md R35). -/
theorem rst_values (s : State) :
    (∀ (i : Nat) (h : i < 14), s.rst.fb[i] = 0x00#8) ∧ s.rst.len = 0#4 ∧
    s.rst.code = 7#3 ∧ s.rst.valid = false ∧ s.rst.fail = false ∧ s.rst.mean = false ∧ s.rst.einfo = 0#9 ∧
    s.rst.msel = 0#4 ∧ s.rst.tpl = 0#3 ∧ s.rst.neg = 0#1 ∧ s.rst.mag = 0#18 ∧ s.rst.dexp = 0#4 ∧
    s.rst.dunit = 0#5 ∧ s.rst.nexp = 0#6 ∧ s.rst.nunit = 0#5 ∧ s.rst.flags = 0#13 := by
  simp [State.code, State.valid, State.fail, State.mean]

/-- Settles O12: the reset state and every state RST answers are states after RST. -/
theorem resetValuesAreTheSpecified : Obligations.ResetValuesAreTheSpecified := by
  rintro t (rfl | ⟨s, h⟩)
  · exact reset_rst ▸ rst_values State.reset
  · obtain rfl := Host.Outcome.next.inj h
    exact rst_values s

/-! ## FLAGS -/

/-- The frame of selector 0xB and range index 0 whose flags are the bits of `v`, by the places of 10_state.md R31 under
LOWBAT_MASK = 0x02. -/
def frameOfFlags (v : BitVec 13) : FrameFields where
  msel    := 0xB#4
  percent := v.getLsbD 0
  hz      := v.getLsbD 11
  ops     :=
    { ridx := 0#3, d1 := 0#4, d2 := 0#4, d3 := 0#4, d4 := 0#4, d5 := 0#4
      minus     := v.getLsbD 1
      bat       := v.getLsbD 2
      overload  := v.getLsbD 3
      underload := v.getLsbD 4
      rel       := v.getLsbD 5
      max       := v.getLsbD 6
      min       := v.getLsbD 7
      dc        := v.getLsbD 8
      ac        := v.getLsbD 9
      auto      := v.getLsbD 10
      hold      := v.getLsbD 12 }

/-- The FLAGS word of that frame is `v`. -/
theorem word_frameOfFlags (v : BitVec 13) : (extractFlags .bit1 (frameOfFlags v)).word = v := by
  obtain ⟨h0, h1, h2, h3, h4, h5, h6, h7, h8, h9, h10, h11, h12⟩ :=
    Flags.word_bits (extractFlags .bit1 (frameOfFlags v))
  refine BitVec.eq_of_getLsbD_eq fun i hi => ?_
  interval_cases i
  exacts [h0, h1, h2, h3, h4, h5, h6, h7, h8, h9, h10, h11, h12]

/-- The reset state with that frame in the buffer. -/
def stateOfFlags (v : BitVec 13) : State :=
  { State.reset with fb := assemble 0#4 (frameOfFlags v), len := 14#4 }

theorem stateOfFlags_frame (v : BitVec 13) :
    (⟨(stateOfFlags v).selector, (stateOfFlags v).percentBit, (stateOfFlags v).hzBit, (stateOfFlags v).operands⟩ :
      FrameFields) = frameOfFlags v :=
  (frameFields_eq (stateOfFlags v)).symm.trans (frameFields_assemble 0#4 (frameOfFlags v))

theorem stateOfFlags_validated (v : BitVec 13) : (stateOfFlags v).Validated :=
  ⟨rfl, rfl, rfl⟩

/-- Under ROM_DEFAULT every override selects a present slot for selector 0xB and range index 0, and its unit is
normalised. -/
theorem romDefault_slot_zero (percent hz : Bool) :
    ∃ re ne, romDefault.slot (tableId romDefault percent hz ⟨1#4⟩) 0#3 = some re ∧
      romDefault.norm re.unit = some ne := by
  cases percent <;> cases hz <;> exact ⟨_, _, rfl, rfl⟩

/-- Every FLAGS word is that of some measurement under the default configuration. -/
theorem exists_exec_dec_flags (v : BitVec 13) :
    ∃ s t, s.config = configDefault ∧ exec .dec s = .next t ∧ t.code = 0#3 ∧ t.flags = v := by
  obtain ⟨re, ne, hs, hn⟩ := romDefault_slot_zero (frameOfFlags v).percent (frameOfFlags v).hz
  have hrun := runFrame_ok (s := stateOfFlags v) (f := frameOfFlags v) (me := ⟨1#4⟩) rfl hs hn
  refine ⟨stateOfFlags v, (stateOfFlags v).runFrame (frameOfFlags v), rfl, ?_, ?_, ?_⟩
  · rw [exec_dec_of_validated (stateOfFlags_validated v), stateOfFlags_frame]
  · rw [hrun, withOk_code]
  · rw [hrun, withOk_flags]
    exact word_frameOfFlags v

/-- Settles O34, by what a DEC leaves: an error condition has FLAGS 0, a measurement the word of its frame's flags. -/
theorem flagsAreCopiesOfTheirFrameBits : Obligations.FlagsAreCopiesOfTheirFrameBits := by
  refine ⟨fun s => ?_, fun s => ⟨_, rfl, rfl⟩, fun s => ⟨_, rfl, rfl⟩, fun s b => ⟨_, rfl, ?_⟩,
    exists_exec_dec_flags⟩
  · rcases exec_dec_error_or_ok s with ⟨w, hw, e, h⟩ | ⟨_, re, ne, -, -, h⟩
    · exact ⟨_, h, fun _ => rfl, fun h0 => absurd h0 (noResultStatus_fields w hw).1⟩
    · refine ⟨_, h, fun h0 => absurd (withOk_code ..) h0, fun _ => ?_⟩
      obtain ⟨h0, h1, h2, rest⟩ := withOk_flags_bits s s.selector s.percentBit s.hzBit s.operands re ne
      exact ⟨h0, h1, fun hb => by rw [h2, hb]; rfl, fun hb => by rw [h2, hb]; rfl, rest⟩
  · obtain ⟨⟨-, -, -, -, -, -, -, -, -, -, hflags⟩, -⟩ := pushByte_frame s b
    exact hflags

end Sys2Proof.Machine
end

section
/-! SUPPORT. The statements of 20_memory.md: loading a candidate keeps the results (R58), no command writes a table (R75),
the precision of the templates (R74) and the pinned entries of W4 (R61). -/

namespace Sys2Proof.Machine

/-! ## Loading -/

section
variable {s : State} {data : Byte} {rest : List CmdWord}

/-- A presented NOP takes its word and nothing else (40_port_operations.md R121). -/
theorem step_of_nop (h : s.port = (0b00#2 ++ data) :: rest) : step s = .next s.popPort := by
  obtain ⟨hnop, -⟩ := decodeCmd_append data
  rw [step_of_port h, State.fetchWord, hnop]
  rfl

/-- A presented PUSH takes its word and pushes its data (40_port_operations.md R122). -/
theorem step_of_push (h : s.port = (0b01#2 ++ data) :: rest) : step s = .next (s.popPort.pushByte data) := by
  obtain ⟨-, hpush, -⟩ := decodeCmd_append data
  rw [step_of_port h, State.fetchWord, hpush]
  rfl

end

/-- Settles O18: NOP and PUSH are the two words that load, and neither writes a result register. -/
theorem loadingKeepsTheEarlierResult : Obligations.LoadingKeepsTheEarlierResult := by
  intro s op data rest hport hop
  have htail : s.popPort.port = rest := congrArg List.tail hport
  rcases hop with rfl | rfl
  · exact ⟨_, step_of_nop hport, by simp [SameResults], htail⟩
  · obtain ⟨hresults, -, hpushed⟩ := pushByte_frame s.popPort data
    exact ⟨_, step_of_push hport, hresults, hpushed.trans htail⟩

/-! ## The tables -/

/-- An instruction without frame fields is one of the four port commands (30_encoding.md R90, R91). -/
theorem port_command_of_fields_none {i : Instr} (h : i.fields = none) :
    i = .nop ∨ (∃ b, i = .push b) ∨ i = .dec ∨ i = .rst := by
  cases i <;> simp [Instr.fields] at h ⊢

/-- No instruction writes the configuration (20_memory.md R75, 10_state.md R34). -/
theorem exec_config {i : Instr} {s t : State} (h : exec i s = .next t) : t.config = s.config := by
  have commit_config (out : Except DecError Measurement) : (s.commit out).config = s.config := by
    obtain ⟨-, -, hconfig, -⟩ := commit_frame s out
    exact hconfig
  cases hf : i.fields with
  | some f =>
    rw [exec_of_fields hf] at h
    exact Host.Outcome.next.inj h ▸ commit_config _
  | none =>
    rcases port_command_of_fields_none hf with rfl | ⟨b, rfl⟩ | rfl | rfl <;>
      obtain rfl := Host.Outcome.next.inj h
    · rfl
    · obtain ⟨-, hconfig, -⟩ := pushByte_frame s b
      exact hconfig
    · exact commit_config _
    · rfl

/-- Settles O20: a step keeps the state or runs one instruction, and no instruction writes the configuration. -/
theorem noInstructionWritesATable : Obligations.NoInstructionWritesATable := by
  refine ⟨fun _ _ _ => exec_config, fun s t h => ?_⟩
  cases hp : s.port with
  | nil => exact Host.Outcome.next.inj (step_of_empty hp ▸ h) ▸ rfl
  | cons c rest => exact exec_config (s := s.popPort) (step_of_port hp ▸ h)

/-! ## The values of a measurement -/

section
variable (s : State) (msel : BitVec 4) (percent hz : Bool) (o : FrameOps) (re : RangeEntry) (ne : NormEntry)

/-- A magnitude fits MAG, so MAG is exact (44_bcd_value_decoder.md R197). -/
theorem withOk_mag_toNat : (s.withOk msel percent hz o re ne).mag.toNat = magnitude o :=
  (BitVec.toNat_ofNat ..).trans (Nat.mod_eq_of_lt ((magnitude_le o).trans_lt (by decide)))

/-- The sign of a measurement is its minus bit (44_bcd_value_decoder.md R199). -/
theorem withOk_sign :
    (-1 : ℚ) ^ (s.withOk msel percent hz o re ne).neg.toNat = if o.minus then -1 else 1 := by
  simp only [State.withOk]
  cases o.minus <;> simp

/-- The displayed value of a measurement (44_bcd_value_decoder.md R202). -/
theorem withOk_displayed :
    (s.withOk msel percent hz o re ne).displayed =
      (if o.minus then -1 else 1) * (magnitude o : ℚ) * (10 : ℚ) ^ re.sexp.toInt := by
  rw [State.displayed, decValue, withOk_sign, withOk_mag_toNat]
  rfl

/-- The normalised value of a measurement is the displayed one times the multiplier of its unit
(45_unit_normalizer.md R210). -/
theorem withOk_normalised :
    (s.withOk msel percent hz o re ne).normalised =
      (s.withOk msel percent hz o re ne).displayed * (10 : ℚ) ^ ne.exp.toInt := by
  have hnexp : (s.withOk msel percent hz o re ne).nexp.toInt = re.sexp.toInt + ne.exp.toInt :=
    (nexp_toInt re.sexp ne.exp).1
  have hdexp : (s.withOk msel percent hz o re ne).dexp.toInt = re.sexp.toInt := rfl
  rw [State.normalised, State.displayed, decValue, decValue, hnexp, hdexp, zpow_add₀ (by norm_num), ← mul_assoc]

end

/-! ## The precision of the templates -/

/-- A DEC that ends with CODE 0 has measured a validated frame by the entries of the image it met. -/
theorem exec_dec_ok {s t : State} (h : exec .dec s = .next t) (hcode : t.code = 0#3) :
    s.Validated ∧ ∃ me re ne, s.config.rom.mode s.selector = some me ∧
      s.config.rom.slot (tableId s.config.rom s.percentBit s.hzBit me) s.rangeIndex = some re ∧
      s.config.rom.norm re.unit = some ne ∧
      t = s.withOk s.selector s.percentBit s.hzBit s.operands re ne := by
  have error_ne {w : BitVec 6} {e : BitVec 9} (hw : w ∈ noResultStatus) : t ≠ s.withError w e := by
    rintro rfl
    exact (noResultStatus_fields w hw).1 hcode
  by_cases hv : s.Validated
  · rw [exec_dec_of_validated hv, Host.Outcome.next.injEq] at h
    refine ⟨hv, ?_⟩
    rcases runFrame_cases s ⟨s.selector, s.percentBit, s.hzBit, s.operands⟩ with
      ⟨-, hr⟩ | ⟨me, hm, ⟨-, hr⟩ | ⟨re, hs, ⟨-, hr⟩ | ⟨ne, hn, hr⟩⟩⟩
    · exact absurd (h.symm.trans hr) (error_ne (by decide))
    · exact absurd (h.symm.trans hr) (error_ne (by decide))
    · exact absurd (h.symm.trans hr) (error_ne (by decide))
    · exact ⟨me, re, ne, hm, hs, hn, h.symm.trans hr⟩
  · have hr := Host.Outcome.next.inj h
    exact absurd (hr.symm.trans (commit_of_not_validated hv)) (error_ne (by decide))

/-- Every present slot of ROM_DEFAULT has the exponent of its template: minus the digits after the point
(20_memory.md R74). -/
theorem romDefault_slot_precision :
    ∀ (tid : BitVec 4) (ridx : BitVec 3), ∀ re ∈ romDefault.slot tid ridx,
      re.sexp.toInt = -((#v[4, 3, 2, 1, 0, 1, 3, 1] : Vector Int 8)[re.tpl.toNat]'re.tpl.isLt) := by
  decide

/-- Settles O47: a measurement's TPL and DEXP are those of one present slot, and every slot of ROM_DEFAULT agrees with its
template. -/
theorem displayedPrecisionIsTheTemplates : Obligations.DisplayedPrecisionIsTheTemplates := by
  refine fun s hc => ⟨_, rfl, fun hcode => ?_⟩
  obtain ⟨-, me, re, ne, -, hs, -, ht⟩ := exec_dec_ok rfl hcode
  rw [hc] at hs
  rw [ht]
  exact romDefault_slot_precision _ _ re hs

/-! ## The pinned entries -/

/-- The plain class of a selector measures by the mode's own table (43_mode_range_lookup.md R182). -/
theorem exec_ok_of_own_slot {s : State} {i : Instr} {msel : BitVec 4} {o : FrameOps} {ridx : BitVec 3}
    {me : ModeEntry} {re : RangeEntry} {ne : NormEntry} (hi : i.fields = some ⟨msel, false, false, o⟩)
    (hr : o.ridx = ridx) (hm : s.config.rom.mode msel = some me) (hs : s.config.rom.slot me.tid ridx = some re)
    (hn : s.config.rom.norm re.unit = some ne) : exec i s = .next (s.withOk msel false false o re ne) := by
  subst hr
  exact (exec_of_fields hi s).trans
    (congrArg Host.Outcome.next (runFrame_ok (f := ⟨msel, false, false, o⟩) (me := me) (re := re) hm hs hn))

/-- Settles O54: W4 gives the voltage slot and the unit V, whatever else the image holds. -/
theorem pinnedVoltageRange : Obligations.PinnedVoltageRange := by
  rintro s o ⟨-, -, -, ⟨me, hm, hs⟩, -, ⟨hn, -⟩, -⟩ hr
  refine ⟨_, exec_ok_of_own_slot rfl hr hm hs hn, withOk_code .., rfl, rfl, rfl, rfl, ?_, ?_⟩
  · have hexp : (BitVec.ofInt 4 (-4)).toInt = -4 := by decide
    rw [withOk_displayed, hexp, div_eq_mul_inv]
    norm_num
  · rw [withOk_normalised]
    exact mul_one _

/-- Settles O55: W4 gives the micro-amp slot and the unit uA, whatever else the image holds. -/
theorem pinnedMicroampRange : Obligations.PinnedMicroampRange := by
  rintro s o ⟨-, -, -, -, ⟨me, hm, ⟨tpl, _, _⟩, hs, rfl, rfl⟩, ⟨-, -, -, hn, -⟩, -⟩ hr
  refine ⟨_, exec_ok_of_own_slot rfl hr hm hs hn, withOk_code .., rfl, rfl, rfl, ?_, ?_⟩
  · have hexp : (BitVec.ofInt 4 (-1)).toInt = -1 := by decide
    rw [withOk_displayed, hexp, div_eq_mul_inv]
    norm_num
  · have hexp : (BitVec.ofInt 5 (-6)).toInt = -6 := by decide
    rw [withOk_normalised, hexp, div_eq_mul_inv]
    norm_num

end Sys2Proof.Machine
end

section
/-! SUPPORT. The statements of 30_encoding.md: the decoder and its inverse (R91, R92, R99, R103), the opcode table
(R99), loading a candidate (R102, R104), the class a DEC runs (R90), the ignored bits (R98) and the reserved unit codes
(R101 (h)). -/

namespace Sys2Proof

open Machine (port_command_of_fields_none)

/-! ## The decoder -/

/-- What the 14 bytes of a frame decode to: the class of their fields, where they are terminated. -/
theorem decode_frame_toList_eq_ok_iff {fb : FrameBytes} {i : Instr} :
    decode (.frame fb.toList) = .ok i ↔ (fb[12] = 0x0D#8 ∧ fb[13] = 0x0A#8) ∧ classOf (frameFields fb) = i := by
  rw [decode, decodeFrame_toList, ← terminated_iff]
  split <;> simp_all

/-- An assembled frame decodes to the class of its fields, whatever its upper nibbles (30_encoding.md R98, R103). -/
theorem decode_assemble (hi : BitVec 4) (f : FrameFields) :
    decode (.frame (assemble hi f).toList) = .ok (classOf f) :=
  decode_frame_toList_eq_ok_iff.2 ⟨⟨rfl, rfl⟩, congrArg classOf (frameFields_assemble hi f)⟩

/-- Settles O1: a port command is read by its op bits, a frame class by its assembled frame. -/
theorem decodeOfEncodeIsTheInstruction : Obligations.DecodeOfEncodeIsTheInstruction := by
  intro i
  cases hf : i.fields with
  | some f => rw [encode_of_fields hf, decode_assemble, classOf_fields hf]
  | none =>
    rcases port_command_of_fields_none hf with rfl | ⟨b, rfl⟩ | rfl | rfl
    · rfl
    · obtain ⟨-, hpush, -⟩ := decodeCmd_append b
      exact congrArg Except.ok hpush
    · rfl
    · rfl

/-- Settles O2: the class of the fields, which has exactly those fields. -/
theorem assembledFrameDecodesForEveryUpperNibble : Obligations.AssembledFrameDecodesForEveryUpperNibble :=
  fun hi f => ⟨classOf f, decode_assemble hi f, fields_classOf f⟩

/-- Settles O3, by the op bits. -/
theorem commandWordsDecodeByTheirOpBits : Obligations.CommandWordsDecodeByTheirOpBits := by
  refine ⟨fun data => ?_, fun w => ⟨decodeCmd w, rfl⟩⟩
  obtain ⟨hnop, hpush, hdec, hrst⟩ := decodeCmd_append data
  exact ⟨congrArg _ hnop, congrArg _ hpush, congrArg _ hdec, congrArg _ hrst⟩

/-- Settles O5, by running the decoder. -/
theorem sampleWordsDecode : Obligations.SampleWordsDecode :=
  ⟨rfl, rfl, rfl, rfl, rfl⟩

/-- Settles O6: the length is checked first, then the terminator. -/
theorem unframedCandidatesAreRejectedByName : Obligations.UnframedCandidatesAreRejectedByName := by
  refine ⟨fun bytes hlen => ?_, fun fb hterm => ?_⟩
  · rw [decode, decodeFrame, frameOfList_of_length_ne hlen]
  · rw [decode, decodeFrame_toList, if_neg ((terminated_iff fb).not.2 hterm)]

/-- Every instruction is a class of the default image: the classes are those the table prints for it
(30_encoding.md R99 (2), (3)). -/
theorem wf_romDefault (i : Instr) : i.wf romDefault = true := by
  cases i <;> rfl

/-- Settles O7: whatever decodes is an instruction, and each is a class of the default image. -/
theorem decodedInstructionsAreClassesOfTheDefaultRom : Obligations.DecodedInstructionsAreClassesOfTheDefaultRom :=
  fun _ i _ => wf_romDefault i

/-! ## The FRAME rows of the opcode table -/

/-- The bits that some FRAME row looks at: the selector, percent, hz and the terminator (30_encoding.md R99). -/
def classBits : FrameBytes :=
  #v[0x00, 0x00, 0x00, 0x00, 0x00, 0x00, 0x0F, 0x08, 0x00, 0x00, 0x01, 0x00, 0xFF, 0xFF]

/-- A frame's fields with every operand 0: what its class is read from. -/
def classFields (msel : BitVec 4) (percent hz : Bool) : FrameFields where
  msel    := msel
  percent := percent
  hz      := hz
  ops     := ⟨0, 0, 0, 0, 0, 0, false, false, false, false, false, false, false, false, false, false, false⟩

/-- A row looks at no other bit, and at the whole terminator. -/
theorem frameRows_mask : ∀ r ∈ frameRows,
    frameWord classBits &&& r.mask = r.mask ∧ r.mask &&& 0xFFFF#112 = 0xFFFF#112 ∧
    r.pattern &&& 0xFFFF#112 = 0x0D0A#112 := by
  decide

theorem and_classBits (b : Byte) :
    b &&& 0x0F#8 = 0#4 ++ nibOf b ∧ b &&& 0x08#8 = 0#4 ++ flagNibble (bitOf b 0x08#8) false false false ∧
    b &&& 0x01#8 = 0#4 ++ flagNibble false false false (bitOf b 0x01#8) := by
  revert b; decide

/-- Under those bits a terminated frame is the assembled frame of its selector, percent and hz. -/
theorem frameWord_and_classBits {fb : FrameBytes} (h : fb[12] = 0x0D#8 ∧ fb[13] = 0x0A#8) :
    frameWord fb &&& frameWord classBits =
      frameWord (assemble 0#4
        (classFields (frameFields fb).msel (frameFields fb).percent (frameFields fb).hz)) := by
  obtain ⟨h12, h13⟩ := h
  obtain ⟨h6, -, -⟩ := and_classBits fb[6]
  obtain ⟨-, h7, -⟩ := and_classBits fb[7]
  obtain ⟨-, -, h10⟩ := and_classBits fb[10]
  have hridx : 0#4 ++ ridxNibble 0#3 = 0#8 := by decide
  have hflags : 0#4 ++ flagNibble false false false false = 0#8 := by decide
  rw [frameWord_and_eq]
  simp [Fin.forall_fin_succ, classBits, assemble, classFields, frameFields, h6, h7, h10, h12, h13, hridx, hflags]

/-- Whether a terminated frame fits a row depends on its selector, percent and hz alone. -/
theorem fits_of_terminated {fb : FrameBytes} (h : fb[12] = 0x0D#8 ∧ fb[13] = 0x0A#8) {r : OpRow 112}
    (hr : r ∈ frameRows) :
    r.fits (frameWord fb) = r.fits (frameWord (assemble 0#4
      (classFields (frameFields fb).msel (frameFields fb).percent (frameFields fb).hz))) := by
  obtain ⟨hmask, -⟩ := frameRows_mask r hr
  rw [OpRow.fits, OpRow.fits, ← frameWord_and_classBits h, BitVec.and_assoc, hmask]

/-- A frame that fits a row is terminated. -/
theorem terminated_of_fits {fb : FrameBytes} {r : OpRow 112} (hr : r ∈ frameRows)
    (hfits : r.fits (frameWord fb) = true) : fb[12] = 0x0D#8 ∧ fb[13] = 0x0A#8 := by
  obtain ⟨-, hmask, hpattern⟩ := frameRows_mask r hr
  have hword : frameWord fb &&& 0xFFFF#112 = 0x0D0A#112 := by
    rw [← hmask, ← BitVec.and_assoc, beq_iff_eq.1 hfits, hpattern]
  have hbytes := (frameWord_and_eq fb #v[0, 0, 0, 0, 0, 0, 0, 0, 0, 0, 0, 0, 0xFF, 0xFF]
    #v[0, 0, 0, 0, 0, 0, 0, 0, 0, 0, 0, 0, 0x0D, 0x0A]).1 hword
  have and_ff (b : Byte) : b &&& 0xFF#8 = b := BitVec.and_allOnes
  exact ⟨(and_ff fb[12]).symm.trans (hbytes 12), (and_ff fb[13]).symm.trans (hbytes 13)⟩

/-- Each selector, percent and hz has one row, that of its class. -/
theorem existsUnique_frameRow : ∀ (msel : BitVec 4) (percent hz : Bool),
    ∃ r ∈ frameRows, frameRows.filter (·.fits (frameWord (assemble 0#4 (classFields msel percent hz)))) = [r] ∧
      (classOf (classFields msel percent hz)).mnemonic = r.mnemonic := by
  decide

/-- The operands of a frame have no part in its mnemonic. -/
theorem mnemonic_classOf (f : FrameFields) :
    (classOf f).mnemonic = (classOf (classFields f.msel f.percent f.hz)).mnemonic := by
  obtain ⟨m, p, h, o⟩ := f
  simp only [classOf, classFields]
  split <;> cases p <;> cases h <;> rfl

/-- Settles O4: a row looks at the class bits alone, so a terminated frame fits the one row of its selector, percent and
hz; a frame that fits some row is terminated. -/
theorem terminatedFrameMatchesExactlyOneRow : Obligations.TerminatedFrameMatchesExactlyOneRow := by
  refine fun fb => ⟨fun hterm => ?_, fun hterm r hr => ?_⟩
  · obtain ⟨r, hr, hfilter, hmnemonic⟩ :=
      existsUnique_frameRow (frameFields fb).msel (frameFields fb).percent (frameFields fb).hz
    have fits_iff (r' : OpRow 112) (hr' : r' ∈ frameRows) : r'.fits (frameWord fb) = true ↔ r' = r := by
      rw [fits_of_terminated hterm hr', ← List.mem_singleton (b := r), ← hfilter, List.mem_filter]
      exact (and_iff_right hr').symm
    exact ⟨r, hr, (fits_iff r hr).2 rfl, fun r' hr' => (fits_iff r' hr').1, _,
      decode_frame_toList_eq_ok_iff.2 ⟨hterm, rfl⟩, (mnemonic_classOf _).trans hmnemonic⟩
  · exact Bool.eq_false_iff.2 fun hfits => hterm (terminated_of_fits hr hfits)

end Sys2Proof

namespace Sys2Proof.Machine

/-! ## The class a DEC runs -/

/-- Settles O21: DEC and the class both run the shared operation on the fields of FB. -/
theorem decOfAValidatedFrameIsItsClass : Obligations.DecOfAValidatedFrameIsItsClass := by
  intro s i hlen hdecode
  obtain ⟨hterm, rfl⟩ := decode_frame_toList_eq_ok_iff.1 hdecode
  rw [exec_dec_of_validated ⟨hlen, hterm⟩, exec_of_fields (fields_classOf _), frameFields_eq]

theorem popPort_of_port {s : State} {c : CmdWord} {rest : List CmdWord} (h : s.port = c :: rest) :
    s.popPort = { s with port := rest } := by
  rw [State.popPort, h, List.tail_cons]

/-- Settles O13, by the instruction that is fetched. -/
theorem stepRunsTheDecodedInstruction : Obligations.StepRunsTheDecodedInstruction := by
  refine fun s => ⟨step_of_empty, fun c rest i hport => ?_⟩
  rw [step_of_port hport, popPort_of_port hport, State.fetchWord]
  refine ⟨fun hc hne => ?_, fun hc hlen hdecode => ?_, fun hc hv => ?_⟩ <;> have hcmd := Except.ok.inj hc
  · rw [hcmd, if_neg hne]
  · obtain ⟨hterm, hclass⟩ := decode_frame_toList_eq_ok_iff.1 hdecode
    rw [if_pos hcmd, fetchDec_of_validated ⟨hlen, hterm⟩, hclass]
  · rw [if_pos hcmd, fetchDec_of_not_validated hv]

/-! ## Loading a candidate -/

/-- LEN counts a PUSH up to 15 (10_state.md R22). -/
theorem pushByte_len (s : State) (b : Byte) : (s.pushByte b).len.toNat = min (s.len.toNat + 1) 15 := by
  rcases Nat.lt_or_ge s.len.toNat 14 with h | h
  · rw [pushByte_of_lt h, State.setLen_len, BitVec.toNat_add_of_lt (by simp; omega), BitVec.toNat_ofNat]
    omega
  · rw [pushByte_of_ge h, State.setLen_len, BitVec.toNat_ofNat]
    omega

/-- A PUSH writes FB[LEN] where there is one (40_port_operations.md R122). -/
theorem pushByte_fb (s : State) (b : Byte) (k : Nat) (hk : k < 14) :
    (s.pushByte b).fb[k] = if s.len.toNat = k then b else s.fb[k] := by
  rcases Nat.lt_or_ge s.len.toNat 14 with h | h
  · rw [pushByte_of_lt h]
    exact Vector.getElem_set h hk
  · rw [pushByte_of_ge h, if_neg (by omega)]
    rfl

/-- A run of pushes is the fold of PUSH's effect. -/
theorem execAll_push (bytes : List Byte) (s : State) :
    execAll (bytes.map .push) s = .next (bytes.foldl State.pushByte s) := by
  induction bytes generalizing s with
  | nil => rfl
  | cons b bs ih => exact ih (s.pushByte b)

/-- LEN counts the pushes up to 15 (30_encoding.md R102). -/
theorem foldl_pushByte_len (bytes : List Byte) (s : State) :
    (bytes.foldl State.pushByte s).len.toNat = min (s.len.toNat + bytes.length) 15 := by
  induction bytes generalizing s with
  | nil =>
    have := s.len.isLt
    rw [List.foldl_nil, List.length_nil]
    omega
  | cons b bs ih =>
    rw [List.foldl_cons, ih, pushByte_len, List.length_cons]
    omega

/-- The pushed bytes stand in FB in push order from FB[LEN] on, and the bytes before FB[LEN] are kept
(30_encoding.md R102). -/
theorem foldl_pushByte_fb (bytes : List Byte) (s : State) (k : Nat) (hk : k < 14) :
    (bytes.foldl State.pushByte s).fb[k] =
      if s.len.toNat ≤ k then bytes[k - s.len.toNat]?.getD s.fb[k] else s.fb[k] := by
  induction bytes generalizing s with
  | nil => simp
  | cons b bs ih =>
    rw [List.foldl_cons, ih, pushByte_len, pushByte_fb]
    rcases Nat.lt_trichotomy s.len.toNat k with h | h | h
    · have hsub : k - s.len.toNat = k - min (s.len.toNat + 1) 15 + 1 := by omega
      rw [if_pos (by omega), if_neg h.ne, if_pos h.le, hsub, List.getElem?_cons_succ]
    · rw [if_neg (by omega), if_pos h, if_pos h.le, h, Nat.sub_self]
      rfl
    · rw [if_neg (by omega), if_neg (by omega), if_neg (by omega)]

/-- Pushes leave the results, the configuration and the port (20_memory.md R58 (c)). -/
theorem foldl_pushByte_frame (bytes : List Byte) (s : State) :
    SameResults (bytes.foldl State.pushByte s) s ∧ (bytes.foldl State.pushByte s).config = s.config ∧
    (bytes.foldl State.pushByte s).port = s.port := by
  induction bytes generalizing s with
  | nil => simp [SameResults]
  | cons b bs ih =>
    have hb := pushByte_frame s b
    have hbs := ih (s.pushByte b)
    simp only [SameResults] at hb hbs
    simp only [SameResults, List.foldl_cons, hbs, hb, and_self]

/-- Settles O16: the three facts about a run of pushes, from LEN 0. -/
theorem pushesFillTheBufferInOrder : Obligations.PushesFillTheBufferInOrder := by
  intro bytes s hlen
  refine ⟨_, execAll_push bytes s, BitVec.eq_of_toNat_eq ?_, fun k hk => ?_, foldl_pushByte_frame bytes s⟩
  · rw [foldl_pushByte_len, hlen, BitVec.toNat_ofNat, BitVec.toNat_ofNat]
    omega
  · simp [foldl_pushByte_fb, hlen]

/-- A state is its results, FB, LEN, the configuration and the port. -/
theorem State.eq_of_sameResults {s t : State} (hr : SameResults s t) (hfb : s.fb = t.fb) (hlen : s.len = t.len)
    (hconfig : s.config = t.config) (hport : s.port = t.port) : s = t := by
  cases s; cases t; simp_all [SameResults]

/-- Pushing the 14 bytes of a frame into an empty buffer puts that frame in FB (30_encoding.md R104). -/
theorem foldl_pushByte_frameBytes (fb : FrameBytes) {s : State} (h : s.len = 0#4) :
    fb.toList.foldl State.pushByte s = { s with fb := fb, len := 14#4 } := by
  obtain ⟨hresults, hconfig, hport⟩ := foldl_pushByte_frame fb.toList s
  refine State.eq_of_sameResults hresults (Vector.ext fun k hk => ?_) (BitVec.eq_of_toNat_eq ?_) hconfig hport
  · rw [foldl_pushByte_fb, h]
    simp [hk]
  · rw [foldl_pushByte_len, h, Vector.length_toList]
    rfl

/-- Settles O17: the pushes put the frame in FB, and DEC over it is its class. -/
theorem sendRunsTheClassOfItsFrame : Obligations.SendRunsTheClassOfItsFrame := by
  intro hi f i s hlen hfields
  rw [send, sendraw, execAll_append _ (execAll_push ..), foldl_pushByte_frameBytes _ hlen]
  have hdecode : decode (.frame (assemble hi f).toList) = .ok i := by rw [decode_assemble, classOf_fields hfields]
  exact decOfAValidatedFrameIsItsClass _ i rfl hdecode

/-! ## The ignored bits -/

/-- Fields of equal bits have equal bits. -/
theorem getLsbD_eq_of_extractLsb'_eq {b b' : Byte} {start len : Nat}
    (h : b'.extractLsb' start len = b.extractLsb' start len) {j : Nat} (hj : j < len) :
    b'.getLsbD (start + j) = b.getLsbD (start + j) := by
  simpa [hj] using congrArg (BitVec.getLsbD · j) h

/-- Settles O33: the fields of R92 are all that a DEC reads of a validated frame. -/
theorem unusedFrameBitsDoNotMatter : Obligations.UnusedFrameBitsDoNotMatter := by
  intro s s' hv hv' hconfig h0 hnib h8 h9 h11
  have nib (k : Fin 14) (hk : k.val ∈ [1, 2, 3, 4, 5, 6, 7, 10] := by decide) :
      s'.fb[k].extractLsb' 0 4 = s.fb[k].extractLsb' 0 4 := hnib k k.isLt hk
  have bit7 (j : Nat) (hj : j < 4 := by decide) := getLsbD_eq_of_extractLsb'_eq (nib 7) hj
  have bit9 (j : Nat) (hj : j < 3 := by decide) := getLsbD_eq_of_extractLsb'_eq h9 hj
  have bit10 (j : Nat) (hj : j < 4 := by decide) := getLsbD_eq_of_extractLsb'_eq (nib 10) hj
  have hselector : s'.selector = s.selector := nib 6
  have hpercent : s'.percentBit = s.percentBit := bit7 3
  have hhz : s'.hzBit = s.hzBit := bit10 0
  have hoperands : s'.operands = s.operands := by
    simp only [State.operands, FrameOps.mk.injEq]
    exact ⟨h0, nib 1, nib 2, nib 3, nib 4, nib 5, bit7 2, bit7 1, bit7 0, h8, bit9 2, bit9 1, bit9 0,
      bit10 3, bit10 2, bit10 1, h11⟩
  refine ⟨_, _, exec_dec_of_validated hv, exec_dec_of_validated hv', ?_⟩
  rw [hselector, hpercent, hhz, hoperands, State.runFrame, State.runFrame, hconfig]
  exact commit_sameResults ..

/-! ## The reserved unit codes -/

/-- A unit code with an entry is not a reserved one (30_encoding.md R101 (h)). -/
theorem lt_of_norm_eq_some {rom : Rom} {u : BitVec 5} {ne : NormEntry} (h : rom.norm u = some ne) : u.toNat < 16 := by
  by_contra hge
  simp [norm_of_reserved rom (Nat.not_lt.1 hge)] at h

/-- Settles O59: normalisation finds no entry at a reserved code, and whatever it finds an entry at is not reserved. -/
theorem reservedUnitCodesAreInternalErrors : Obligations.ReservedUnitCodesAreInternalErrors := by
  refine ⟨fun s me re hv hunit hmode hslot => ?_, fun s i f me re hi hunit hmode hslot => ?_,
    fun rom hrom t r re hslot => ?_, fun s hW3 => ⟨_, rfl, fun hcode => ?_⟩⟩
  · rw [exec_dec_of_validated hv]
    exact congrArg Host.Outcome.next (runFrame_norm_none hmode hslot (norm_of_reserved _ hunit))
  · rw [exec_of_fields hi, runFrame_norm_none hmode hslot (norm_of_reserved _ hunit)]
  · obtain ⟨-, hW2, -⟩ := hrom
    obtain ⟨ne, hnorm⟩ := Option.isSome_iff_exists.1 (hW2 t r re hslot)
    exact lt_of_norm_eq_some hnorm
  · obtain ⟨-, me, re, ne, -, -, hnorm, ht⟩ := exec_dec_ok rfl hcode
    rw [ht]
    exact ⟨lt_of_norm_eq_some hnorm, lt_of_norm_eq_some (hW3 re.unit ne hnorm)⟩

end Sys2Proof.Machine
end

section
/-! SUPPORT. The statements of 40_port_operations.md: the port commands (R121 to R124), the step over them (R120) and
the host's reads (R125). -/

namespace Sys2Proof.Machine

/-! ## The step -/

section
variable {s : State} {data : Byte} {rest : List CmdWord}

/-- A presented DEC takes its word and has the effect of the port command, whichever instruction it runs as
(40_port_operations.md R123). -/
theorem step_of_dec (h : s.port = (0b10#2 ++ data) :: rest) : step s = exec .dec s.popPort := by
  obtain ⟨-, -, hdec, -⟩ := decodeCmd_append data
  rw [step_of_port h, State.fetchWord, if_pos hdec, exec_fetchDec]

/-- A presented RST takes its word and resets (40_port_operations.md R124). -/
theorem step_of_rst (h : s.port = (0b11#2 ++ data) :: rest) : step s = .next s.popPort.rst := by
  obtain ⟨-, -, -, hrst⟩ := decodeCmd_append data
  rw [step_of_port h, State.fetchWord, hrst]
  rfl

end

/-- Every instruction answers a next state (40_port_operations.md R120). -/
theorem exec_completes (i : Instr) (s : State) : Completes (exec i s) := by
  cases hf : i.fields with
  | some f => exact ⟨_, exec_of_fields hf s⟩
  | none => rcases port_command_of_fields_none hf with rfl | ⟨b, rfl⟩ | rfl | rfl <;> exact ⟨_, rfl⟩

/-- Every step answers a next state: it keeps the state or runs one instruction. -/
theorem step_completes (s : State) : Completes (step s) := by
  cases hport : s.port with
  | nil => exact ⟨s, step_of_empty hport⟩
  | cons c rest =>
    rw [step_of_port hport]
    exact exec_completes ..

/-- Settles O15, by the two totality lemmas. -/
theorem everyInstructionAndStepCompletes : Obligations.EveryInstructionAndStepCompletes :=
  ⟨exec_completes, step_completes⟩

/-- Settles O14: the step over each of the four op values, on the state with the word taken. -/
theorem stepRunsTheCommandAndCompletes : Obligations.StepRunsTheCommandAndCompletes := by
  intro s op data rest hport
  rw [← popPort_of_port hport]
  refine ⟨?_, ?_, ?_, ?_, step_completes s⟩ <;> rintro rfl
  · exact step_of_nop hport
  · exact step_of_push hport
  · exact step_of_dec hport
  · exact step_of_rst hport

/-! ## NOP -/

/-- Settles O8: the op bits 00 decode to NOP, whose meaning is the state itself. -/
theorem nopChangesNothing : Obligations.NopChangesNothing := by
  refine ⟨fun data => ?_, fun _ => rfl⟩
  obtain ⟨hnop, -⟩ := decodeCmd_append data
  exact hnop

/-! ## PUSH -/

/-- A PUSH with room as one record: FB[LEN] and LEN are all it writes (40_port_operations.md R122). -/
theorem pushByte_eq_of_lt {s : State} (h : s.len.toNat < 14) (b : Byte) :
    s.pushByte b = { s with fb := s.fb.set s.len.toNat b, len := BitVec.ofNat 4 (s.len.toNat + 1) } := by
  rw [pushByte_of_lt h, BitVec.ofNat_add, BitVec.ofNat_toNat, BitVec.setWidth_eq]
  rfl

/-- DEC over a candidate that is not validated takes FramingError (60_exceptions.md R232). -/
theorem exec_dec_of_not_validated {s : State} (h : ¬ s.Validated) :
    exec .dec s = .next (s.withError 0x01#6 (s.len.zeroExtend 9)) :=
  congrArg Host.Outcome.next (commit_of_not_validated h)

/-- Settles O9: a candidate with LEN 15 is not validated, so the next DEC takes FramingError. -/
theorem pushStoresTheByteOrSaturates : Obligations.PushStoresTheByteOrSaturates := by
  intro s b
  obtain ⟨-, hpush, -⟩ := decodeCmd_append b
  refine ⟨hpush, fun h => congrArg Host.Outcome.next (pushByte_eq_of_lt h b), fun h =>
    ⟨congrArg Host.Outcome.next (pushByte_of_ge h b), ?_⟩⟩
  have hlong : ¬ ({ s with len := 15#4 } : State).Validated := fun ⟨hlen, _⟩ =>
    (by decide : 15#4 ≠ 14#4) hlen
  exact ⟨_, exec_dec_of_not_validated hlong, rfl⟩

/-- Settles O10: the byte of FB that a PUSH writes, and the frame of PUSH. -/
theorem pushLeavesEverythingElse : Obligations.PushLeavesEverythingElse := by
  intro s t b h
  obtain rfl : s.pushByte b = t := Host.Outcome.next.inj h
  refine ⟨fun j hj => ⟨fun heq => ?_, fun hne => ?_⟩, pushByte_frame s b⟩
  · rw [pushByte_fb, if_pos heq.symm]
  · rw [pushByte_fb, if_neg hne.symm]

/-! ## DEC and the frame classes -/

/-- DEC and every frame class end in the write of an outcome (40_port_operations.md R123, 30_encoding.md R99). -/
theorem exec_eq_commit {i : Instr} (h : i = .dec ∨ i.fields.isSome) (s : State) :
    ∃ out, exec i s = .next (s.commit out) := by
  rcases h with rfl | hf
  · exact ⟨_, rfl⟩
  · obtain ⟨f, hf⟩ := Option.isSome_iff_exists.1 hf
    exact ⟨_, exec_of_fields hf s⟩

/-- Settles O22: the write of an outcome leaves FB, the configuration and the port, and empties the buffer. -/
theorem decodingLeavesTheBufferAndEmptiesIt : Obligations.DecodingLeavesTheBufferAndEmptiesIt := by
  intro i s h
  obtain ⟨out, hout⟩ := exec_eq_commit h s
  exact ⟨_, hout, commit_frame s out⟩

/-! ## RST -/

/-- RST is idempotent (40_port_operations.md R124). -/
@[simp] theorem rst_rst (s : State) : s.rst.rst = s.rst := rfl

/-- Settles O11: the op bits 11 decode to RST, whose meaning is the reset record and idempotent. -/
theorem rstGivesEveryRegisterItsResetValue : Obligations.RstGivesEveryRegisterItsResetValue := by
  refine ⟨fun data => ?_, fun s => ⟨s.rst, rfl, rfl, congrArg Host.Outcome.next (rst_rst s)⟩⟩
  obtain ⟨-, -, -, hrst⟩ := decodeCmd_append data
  exact hrst

/-! ## The host's reads -/

/-- Settles O19: each of the eleven registers with a number is one equation of `SameResults`, and the converse. -/
theorem hostReadsExactlyTheResultRegisters : Obligations.HostReadsExactlyTheResultRegisters := by
  refine fun s t => ⟨fun h => ?_, fun h r => ?_⟩
  · exact ⟨h .status, h .einfo, h .msel, h .tpl, h .neg, h .mag, h .dexp, h .dunit, h .nexp, h .nunit, h .flags⟩
  · obtain ⟨hstatus, heinfo, hmsel, htpl, hneg, hmag, hdexp, hdunit, hnexp, hnunit, hflags⟩ := h
    cases r <;> assumption

end Sys2Proof.Machine
end

section
/-! SUPPORT. The statements of 41_frame_validator.md: a candidate that fails VALIDATE has an outcome of LEN alone (R131)
and is invalid, never a failure (R134). -/

namespace Sys2Proof.Machine

/-- `sendraw` is DEC over the pushed bytes (30_encoding.md R104). -/
theorem execAll_sendraw (bytes : List Byte) (s : State) :
    execAll (sendraw bytes) s = exec .dec (bytes.foldl State.pushByte s) := by
  rw [sendraw, execAll_append _ (execAll_push bytes s)]
  rfl

/-- Bytes pushed into an empty buffer pass VALIDATE exactly where they are 14 and end in the terminator
(41_frame_validator.md R130). -/
theorem validated_foldl_pushByte_iff {s : State} (h : s.len = 0#4) (bytes : List Byte) :
    (bytes.foldl State.pushByte s).Validated ↔
      bytes.length = 14 ∧ bytes[12]? = some 0x0D#8 ∧ bytes[13]? = some 0x0A#8 := by
  have hlen : (bytes.foldl State.pushByte s).len = 14#4 ↔ bytes.length = 14 := by
    rw [← BitVec.toNat_inj, foldl_pushByte_len, h, BitVec.toNat_ofNat, BitVec.toNat_ofNat]
    omega
  rw [State.Validated, hlen]
  refine and_congr_right fun h14 => ?_
  have hfb (k : Nat) (hk : k < 14) (b : Byte) :
      (bytes.foldl State.pushByte s).fb[k] = b ↔ bytes[k]? = some b := by
    simp [foldl_pushByte_fb, h, h14, hk]
  exact and_congr (hfb 12 (by decide) _) (hfb 13 (by decide) _)

/-- FramingError is VALID 0, CODE 1, FAIL 0 (60_exceptions.md R231). -/
theorem withError_framing_fields (s : State) (e : BitVec 9) :
    (s.withError 0x01#6 e).valid = false ∧ (s.withError 0x01#6 e).code = 1#3 ∧
    (s.withError 0x01#6 e).fail = false := by
  change (0x01#6).getLsbD 3 = false ∧ (0x01#6).extractLsb' 0 3 = 1#3 ∧ (0x01#6).getLsbD 4 = false
  decide

/-- Settles O24: the pushed bytes fail VALIDATE, and DEC reports their count as LEN. -/
theorem badCandidateIsInvalidAndNeverAFailure : Obligations.BadCandidateIsInvalidAndNeverAFailure := by
  intro bytes s hlen hbad
  have hv := (validated_foldl_pushByte_iff hlen bytes).not.2 hbad
  obtain ⟨hvalid, hcode, hfail⟩ := withError_framing_fields (bytes.foldl State.pushByte s) _
  refine ⟨_, (execAll_sendraw bytes s).trans (exec_dec_of_not_validated hv), hvalid, hcode, hfail, ?_⟩
  have hcount : (bytes.foldl State.pushByte s).len.toNat = min bytes.length 15 := by
    rw [foldl_pushByte_len, hlen, BitVec.toNat_ofNat, Nat.zero_mod, Nat.zero_add]
  rw [← hcount, BitVec.ofNat_toNat]
  rfl

/-- The results of an error condition are its STATUS and EINFO: nothing of the state before it is in them. -/
theorem withError_sameResults (s s' : State) (w : BitVec 6) (e : BitVec 9) :
    SameResults (s.withError w e) (s'.withError w e) := by
  simp [SameResults, State.withError]

/-- Settles O25: neither state passes VALIDATE, and the error condition records LEN and nothing of FB. -/
theorem invalidOutcomeIgnoresTheFrameBytes : Obligations.InvalidOutcomeIgnoresTheFrameBytes := by
  intro s s' hv hlen h12 h13
  have hv' : ¬ s'.Validated := by rwa [State.Validated, hlen, h12, h13]
  refine ⟨_, _, exec_dec_of_not_validated hv, exec_dec_of_not_validated hv', ?_, rfl⟩
  rw [hlen]
  exact withError_sameResults s s' _ _

end Sys2Proof.Machine
end

section
/-! SUPPORT. The statements of 42_flag_extractor.md: the low-battery flag under each mask (R143), and MEAN with the two
flags it is formed from (R144, R145, R156). -/

namespace Sys2Proof

/-- The fields of a frame with its overload and underload flags set to the given values. -/
def FrameFields.setOutOfRange (f : FrameFields) (overload underload : Bool) : FrameFields :=
  { f with ops := { f.ops with overload := overload, underload := underload } }

end Sys2Proof

namespace Sys2Proof.Machine

/-! ## Low battery -/

/-- The low-battery flag of the frame in the buffer is BIT(7, LOWBAT_MASK) (42_flag_extractor.md R143). -/
theorem lowbatFlag_buffer (mask : LowbatMask) (s : State) :
    lowbatFlag mask ⟨s.selector, s.percentBit, s.hzBit, s.operands⟩ = ((s.fb[7] &&& mask.mask) != 0#8) := by
  obtain ⟨h8, -, h2, -⟩ := bitOf_masks s.fb[7]
  cases mask with
  | bit1 => exact h2.symm
  | bit3 => exact h8.symm

/-- Settles O35: a DEC that ends with CODE 0 leaves the flags of the frame in the buffer, and the mask 0x08 reads the
percent bit. -/
theorem lowBatteryFollowsItsMask : Obligations.LowBatteryFollowsItsMask := by
  refine fun s => ⟨_, rfl, fun hcode => ?_⟩
  obtain ⟨-, _, re, ne, -, -, -, ht⟩ := exec_dec_ok rfl hcode
  obtain ⟨hpercent, -, hlowbat, -⟩ := withOk_flags_bits s s.selector s.percentBit s.hzBit s.operands re ne
  rw [ht]
  refine ⟨hlowbat.trans (lowbatFlag_buffer _ s), fun hmask => by rw [hmask]; rfl,
    fun hmask => ⟨by rw [hmask]; rfl, ?_⟩⟩
  rw [hlowbat, hpercent, hmask]
  rfl

/-! ## Overload and underload -/

/-- MEAN after a DEC: VALID with neither flag set (42_flag_extractor.md R156). -/
theorem exec_dec_mean (s : State) :
    ∃ t, exec .dec s = .next t ∧ t.mean = (t.valid && !t.flags.getLsbD 3 && !t.flags.getLsbD 4) := by
  rcases exec_dec_error_or_ok s with ⟨w, hw, e, h⟩ | ⟨_, re, ne, -, -, h⟩
  · obtain ⟨-, -, -, hvalid, hmean, -⟩ := noResultStatus_fields w hw
    have herror : (s.withError w e).valid = false := hvalid
    exact ⟨_, h, by rw [herror]; exact hmean⟩
  · obtain ⟨-, -, -, hover, hunder, -⟩ := withOk_flags_bits s s.selector s.percentBit s.hzBit s.operands re ne
    exact ⟨_, h, by rw [withOk_mean, withOk_valid, hover, hunder, Bool.true_and, Bool.not_or]⟩

/-- The two flags stand at bits 3 and 4 of the FLAGS word and nowhere else (10_state.md R31). -/
theorem word_setOutOfRange (mask : LowbatMask) (f : FrameFields) (ol ul : Bool) {k : Nat} (h3 : k ≠ 3) (h4 : k ≠ 4) :
    (extractFlags mask (f.setOutOfRange ol ul)).word.getLsbD k = (extractFlags mask f).word.getLsbD k := by
  match k with
  | 3 | 4 => contradiction
  | 0 | 1 | 2 | k + 5 =>
    simp only [Flags.word, (getLsbD_append_ofBool _ _ 0).1, (getLsbD_append_ofBool _ _ _).2]
    rfl

/-- The two flags cause and prevent no error condition, and a measurement is made by the same entries
(42_flag_extractor.md R144, R145). -/
theorem runFrame_setOutOfRange (s : State) (f : FrameFields) (ol ul : Bool) :
    s.runFrame (f.setOutOfRange ol ul) = s.runFrame f ∨
    ∃ re ne, s.runFrame f = s.withOk f.msel f.percent f.hz f.ops re ne ∧
      s.runFrame (f.setOutOfRange ol ul) =
        s.withOk f.msel f.percent f.hz (f.setOutOfRange ol ul).ops re ne := by
  rcases runFrame_cases s f with ⟨hm, h⟩ | ⟨me, hm, ⟨hs, h⟩ | ⟨re, hs, ⟨hn, h⟩ | ⟨ne, hn, h⟩⟩⟩
  · exact .inl ((runFrame_mode_none (f := f.setOutOfRange ol ul) hm).trans h.symm)
  · exact .inl ((runFrame_slot_none (f := f.setOutOfRange ol ul) hm hs).trans h.symm)
  · exact .inl ((runFrame_norm_none (f := f.setOutOfRange ol ul) hm hs hn).trans h.symm)
  · exact .inr ⟨re, ne, h, runFrame_ok (f := f.setOutOfRange ol ul) hm hs hn⟩

/-- Settles O36: MEAN by the outcomes of a DEC; the two classes leave the same error condition, or measurements by the
same entries, which differ in MEAN and in the two flags. -/
theorem meanTellsWhetherTheDigitsAreMeaningful : Obligations.MeanTellsWhetherTheDigitsAreMeaningful := by
  refine ⟨exec_dec_mean, fun f ol ul i i' s hi hi' =>
    ⟨_, s.runFrame (f.setOutOfRange ol ul), exec_of_fields hi s, exec_of_fields hi' s, ?_⟩⟩
  rcases runFrame_setOutOfRange s f ol ul with h | ⟨re, ne, h, h'⟩
  · simp [h]
  · rw [h, h']
    refine ⟨by simp, by simp, by simp, rfl, rfl, rfl, rfl, rfl, rfl, rfl, rfl, rfl, fun k h3 h4 => ?_⟩
    rw [withOk_flags, withOk_flags]
    exact word_setOutOfRange s.config.lowbatMask f ol ul h3 h4

end Sys2Proof.Machine
end

section
/-! SUPPORT. The statements of 43_mode_range_lookup.md: the table a frame selects (R182, R185), a mode without a table of
its own (R184), and the frame classes of each selector (R162 to R177). -/

namespace Sys2Proof.Machine

/-! ## The outcome of a lookup -/

/-- The CODE the tables lead to: the selector, the two override bits and the range index are all it takes
(43_mode_range_lookup.md R185). -/
def lookupCode (rom : Rom) (msel : BitVec 4) (percent hz : Bool) (ridx : BitVec 3) : BitVec 3 :=
  match rom.mode msel with
  | none => 2#3
  | some me =>
    match rom.slot (tableId rom percent hz me) ridx with
    | none => 3#3
    | some re => if (rom.norm re.unit).isSome then 0#3 else 4#3

section
variable {rom : Rom} {msel : BitVec 4} {percent hz : Bool} {ridx : BitVec 3} {me : ModeEntry}

theorem lookupCode_of_mode_none (hm : rom.mode msel = none) : lookupCode rom msel percent hz ridx = 2#3 := by
  rw [lookupCode, hm]

theorem lookupCode_of_slot_none (hm : rom.mode msel = some me)
    (hs : rom.slot (tableId rom percent hz me) ridx = none) : lookupCode rom msel percent hz ridx = 3#3 := by
  simp only [lookupCode, hm, hs]

theorem lookupCode_of_slot {re : RangeEntry} (hm : rom.mode msel = some me)
    (hs : rom.slot (tableId rom percent hz me) ridx = some re) :
    lookupCode rom msel percent hz ridx = if (rom.norm re.unit).isSome then 0#3 else 4#3 := by
  simp only [lookupCode, hm, hs]

/-- UnsupportedModeError is the outcome of no defined mode (43_mode_range_lookup.md R185). -/
theorem lookupCode_ne_two (hm : rom.mode msel = some me) : lookupCode rom msel percent hz ridx ≠ 2#3 := by
  cases hs : rom.slot (tableId rom percent hz me) ridx with
  | none => simp [lookupCode_of_slot_none hm hs]
  | some re =>
    rw [lookupCode_of_slot hm hs]
    split <;> decide

/-- Where every unit has an entry (W2), a defined mode measures exactly where the selected slot is present. -/
theorem lookupCode_of_W2 (hW2 : rom.W2) (hm : rom.mode msel = some me) :
    lookupCode rom msel percent hz ridx =
      if (rom.slot (tableId rom percent hz me) ridx).isSome then 0#3 else 3#3 := by
  cases hs : rom.slot (tableId rom percent hz me) ridx with
  | none => exact lookupCode_of_slot_none hm hs
  | some re => rw [lookupCode_of_slot hm hs, if_pos (hW2 _ _ re hs)]; rfl

end

/-- UnsupportedModeError is the outcome of exactly the undefined selectors (43_mode_range_lookup.md R185). -/
theorem lookupCode_eq_two_iff (rom : Rom) (msel : BitVec 4) (percent hz : Bool) (ridx : BitVec 3) :
    lookupCode rom msel percent hz ridx = 2#3 ↔ rom.mode msel = none := by
  cases hm : rom.mode msel with
  | none => simp [lookupCode_of_mode_none hm]
  | some me => simp [lookupCode_ne_two hm]

/-- A validated frame's CODE is that of its lookup. -/
theorem runFrame_code (s : State) (f : FrameFields) :
    (s.runFrame f).code = lookupCode s.config.rom f.msel f.percent f.hz f.ops.ridx := by
  rcases runFrame_cases s f with ⟨hm, h⟩ | ⟨me, hm, ⟨hs, h⟩ | ⟨re, hs, ⟨hn, h⟩ | ⟨ne, hn, h⟩⟩⟩
  · rw [h, withError_code, lookupCode_of_mode_none hm]; rfl
  · rw [h, withError_code, lookupCode_of_slot_none hm hs]; rfl
  · rw [h, withError_code, lookupCode_of_slot hm hs, hn]; rfl
  · rw [h, withOk_code, lookupCode_of_slot hm hs, hn]; rfl

/-- DEC over a validated candidate ends with the CODE of its lookup. -/
theorem exec_dec_code {s : State} (hv : s.Validated) :
    ∃ t, exec .dec s = .next t ∧
      t.code = lookupCode s.config.rom s.selector s.percentBit s.hzBit s.rangeIndex :=
  ⟨_, exec_dec_of_validated hv, runFrame_code ..⟩

/-! ## DEC over a defined mode -/

/-- The table id and the selection code of a frame, from the cases of R182. -/
theorem tableId_of_cases {rom : Rom} {me : ModeEntry} {percent hz : Bool} {tid : BitVec 4} {tsel : BitVec 2}
    (h : percent = true ∧ tid = rom.pctTid ∧ tsel = 1#2 ∨
      percent = false ∧ hz = true ∧ tid = rom.hzTid ∧ tsel = 2#2 ∨
      percent = false ∧ hz = false ∧ tid = me.tid ∧ tsel = 0#2) :
    tid = tableId rom percent hz me ∧ tsel = tableSelCode percent hz := by
  rcases h with ⟨rfl, rfl, rfl⟩ | ⟨rfl, rfl, rfl, rfl⟩ | ⟨rfl, rfl, rfl, rfl⟩ <;> exact ⟨rfl, rfl⟩

/-- E_TSEL of a range failure is the selection code (60_exceptions.md R236). -/
theorem withError_eTsel (s : State) (w : BitVec 6) (tsel : BitVec 2) (ridx : BitVec 3) (msel : BitVec 4) :
    (s.withError w (tsel ++ ridx ++ msel)).eTsel = tsel := by
  obtain ⟨-, -, htsel⟩ := einfoWord_fields tsel ridx msel
  exact htsel

section
variable {s : State} {me : ModeEntry}

/-- DEC over an absent slot takes UnsupportedRangeError (60_exceptions.md R234). -/
theorem exec_dec_of_slot_none (hv : s.Validated) (hm : s.config.rom.mode s.selector = some me)
    (hs : s.config.rom.slot (tableId s.config.rom s.percentBit s.hzBit me) s.rangeIndex = none) :
    exec .dec s = .next
      (s.withError 0x13#6 (tableSelCode s.percentBit s.hzBit ++ s.rangeIndex ++ s.selector)) := by
  rw [exec_dec_of_validated hv]
  exact congrArg Host.Outcome.next (runFrame_slot_none hm hs)

/-- DEC over a present slot whose unit is known measures (46_measurement_assembler.md R221). -/
theorem exec_dec_of_slot {re : RangeEntry} {ne : NormEntry} (hv : s.Validated)
    (hm : s.config.rom.mode s.selector = some me)
    (hs : s.config.rom.slot (tableId s.config.rom s.percentBit s.hzBit me) s.rangeIndex = some re)
    (hn : s.config.rom.norm re.unit = some ne) :
    exec .dec s = .next (s.withOk s.selector s.percentBit s.hzBit s.operands re ne) := by
  rw [exec_dec_of_validated hv]
  exact congrArg Host.Outcome.next (runFrame_ok hm hs hn)

/-- The outcome of a defined mode is decided by the slot of the selected table (43_mode_range_lookup.md R183). -/
theorem exec_dec_by_slot (hv : s.Validated) (hm : s.config.rom.mode s.selector = some me) :
    ∃ t, exec .dec s = .next t ∧
      (s.config.rom.slot (tableId s.config.rom s.percentBit s.hzBit me) s.rangeIndex = none →
        t.code = 3#3 ∧ t.eTsel = tableSelCode s.percentBit s.hzBit) ∧
      ∀ re, s.config.rom.slot (tableId s.config.rom s.percentBit s.hzBit me) s.rangeIndex = some re →
        t.code ≠ 3#3 ∧
        (t.code = 0#3 → t.msel = s.selector ∧ t.tpl = re.tpl ∧ t.dunit = re.unit ∧ t.dexp = re.sexp) := by
  refine ⟨_, rfl, fun hs => ?_, fun re hs => ?_⟩
  · rw [Host.Outcome.next.inj (exec_dec_of_slot_none hv hm hs)]
    exact ⟨withError_code .., withError_eTsel ..⟩
  · obtain ⟨t, ht, hcode⟩ := exec_dec_code hv
    rw [Host.Outcome.next.inj ht]
    refine ⟨?_, fun h0 => ?_⟩
    · rw [hcode, lookupCode_of_slot hm hs]
      split <;> decide
    · obtain ⟨-, me', re', ne, hm', hs', -, rfl⟩ := exec_dec_ok ht h0
      obtain rfl := Option.some.inj (hm.symm.trans hm')
      obtain rfl := Option.some.inj (hs.symm.trans hs')
      exact ⟨rfl, rfl, rfl, rfl⟩

end

/-- Settles O37: (a) by the slot of the selected table, (b) and (c) because CODE is that of the lookup, which takes
nothing else of the frame. -/
theorem overridesSelectTheTable : Obligations.OverridesSelectTheTable := by
  refine ⟨fun s me tid tsel hv hm hsel => ?_, fun s s' hv hv' hconfig hselector => ?_,
    fun s s' hv hv' hconfig hselector hpercent hhz hridx => ?_⟩
  · obtain ⟨rfl, rfl⟩ := tableId_of_cases hsel
    exact exec_dec_by_slot hv hm
  · obtain ⟨t, ht, hcode⟩ := exec_dec_code hv
    obtain ⟨t', ht', hcode'⟩ := exec_dec_code hv'
    refine ⟨t, t', ht, ht', ?_⟩
    rw [hcode, hcode', lookupCode_eq_two_iff, lookupCode_eq_two_iff, hconfig, hselector]
  · obtain ⟨t, ht, hcode⟩ := exec_dec_code hv
    obtain ⟨t', ht', hcode'⟩ := exec_dec_code hv'
    refine ⟨t, t', ht, ht', ?_⟩
    rw [hcode, hcode', hconfig, hselector, hpercent, hhz, hridx]

/-- Settles O38: the mode's own table is table 0, which W1 leaves empty; an override selects another table before it. -/
theorem modeWithoutTableNeedsAnOverride : Obligations.ModeWithoutTableNeedsAnOverride := by
  refine fun s hv hW1 hm => ⟨fun hpercent hhz => ?_, fun re ne hover hn => exec_dec_of_slot hv hm ?_ hn⟩
  · have hs : s.config.rom.slot (tableId s.config.rom s.percentBit s.hzBit ⟨0#4⟩) s.rangeIndex = none := by
      rw [hpercent, hhz]
      exact hW1 s.rangeIndex
    rw [exec_dec_of_slot_none hv hm hs, hpercent, hhz]
    rfl
  · rcases hover with ⟨hpercent, hs⟩ | ⟨hpercent, hhz, hs⟩
    · rw [hpercent]
      exact hs
    · rw [hpercent, hhz]
      exact hs

/-! ## The frame classes -/

/-- A class listed with its selector has the fields of the list's form. -/
theorem fields_of_mem {l : List (Instr × BitVec 4)} {i : Instr} {m : BitVec 4} {percent hz : Bool} {o : FrameOps}
    (h : (i, m) ∈ l) (hl : l.map (fun c => c.1.fields) = l.map (fun c => some ⟨c.2, percent, hz, o⟩)) :
    i.fields = some ⟨m, percent, hz, o⟩ :=
  List.map_inj_left.1 hl _ h

section
variable {s : State} {i : Instr} {f : FrameFields} {me : ModeEntry}

/-- A class over a present slot whose unit is known measures (46_measurement_assembler.md R221). -/
theorem exec_of_slot {re : RangeEntry} {ne : NormEntry} (hi : i.fields = some f)
    (hm : s.config.rom.mode f.msel = some me)
    (hs : s.config.rom.slot (tableId s.config.rom f.percent f.hz me) f.ops.ridx = some re)
    (hn : s.config.rom.norm re.unit = some ne) :
    exec i s = .next (s.withOk f.msel f.percent f.hz f.ops re ne) := by
  rw [exec_of_fields hi, runFrame_ok hm hs hn]

/-- A class over an absent slot takes UnsupportedRangeError (60_exceptions.md R234). -/
theorem exec_of_slot_none (hi : i.fields = some f) (hm : s.config.rom.mode f.msel = some me)
    (hs : s.config.rom.slot (tableId s.config.rom f.percent f.hz me) f.ops.ridx = none) :
    exec i s = .next (s.withError 0x13#6 (tableSelCode f.percent f.hz ++ f.ops.ridx ++ f.msel)) := by
  rw [exec_of_fields hi, runFrame_slot_none hm hs]

/-- A class of an undefined selector takes UnsupportedModeError (60_exceptions.md R233). -/
theorem exec_of_mode_none (hi : i.fields = some f) (hm : s.config.rom.mode f.msel = none) :
    exec i s = .next (s.withError 0x12#6 (f.msel.zeroExtend 9)) := by
  rw [exec_of_fields hi, runFrame_mode_none hm]

end

/-- Settles O48: without an override the selected table is the mode's own. -/
theorem ownTableClassesMeasure : Obligations.OwnTableClassesMeasure :=
  fun _ _ _ _ _ _ _ hmem hm hs hn => exec_of_slot (fields_of_mem hmem rfl) hm hs hn

/-- Settles O49: with hz alone the selected table is the frequency table. -/
theorem frequencyClassesMeasure : Obligations.FrequencyClassesMeasure :=
  fun _ _ _ _ _ _ _ hmem hm hs hn => exec_of_slot (fields_of_mem hmem rfl) hm hs hn

/-- Settles O50: with percent the selected table is the percent table, before hz is looked at. -/
theorem percentClassesMeasure : Obligations.PercentClassesMeasure :=
  fun _ _ _ _ _ _ _ _ hmem hm hs hn => exec_of_slot (fields_of_mem hmem rfl) hm hs hn

/-- Settles O51: a RSVD class is one of the image exactly where its selector is undefined. -/
theorem reservedClassesReportUnsupportedMode : Obligations.ReservedClassesReportUnsupportedMode := by
  intro s o percent hz i m hmem hwf
  have hundefined : i.wf s.config.rom = (s.config.rom.mode m).isNone :=
    List.map_inj_left (f := fun c => c.1.wf s.config.rom) (g := fun c => (s.config.rom.mode c.2).isNone) |>.1
      rfl _ hmem
  exact exec_of_mode_none (fields_of_mem hmem rfl) (Option.isNone_iff_eq_none.1 (hundefined.symm.trans hwf))

/-- Settles O52: the mode's own table is table 0, which W1 leaves empty. -/
theorem tablelessClassesReportUnsupportedRange : Obligations.TablelessClassesReportUnsupportedRange := by
  intro s o i m hmem hW1 hm
  have hi : i.fields = some ⟨m, false, false, o⟩ := fields_of_mem hmem rfl
  have hs : s.config.rom.slot (tableId s.config.rom false false ⟨0#4⟩) o.ridx = none := hW1 o.ridx
  rw [exec_of_slot_none hi hm hs]
  rfl

/-! ## The slots of ROM_DEFAULT -/

/-- Whether the slot a frame's fields select is present, where the image defines the mode. -/
def slotPresent (rom : Rom) (f : FrameFields) : Option Bool :=
  (rom.mode f.msel).map fun me => (rom.slot (tableId rom f.percent f.hz me) f.ops.ridx).isSome

/-- Under W2 a class measures where its slot is present and takes UnsupportedRangeError where it is absent. -/
theorem exec_code_of_slotPresent {s : State} (hW2 : s.config.rom.W2) {i : Instr} {good : Bool}
    (h : i.fields.bind (slotPresent s.config.rom) = some good) :
    ∃ t, exec i s = .next t ∧ t.code = if good then 0#3 else 3#3 := by
  obtain ⟨f, hi, hf⟩ := Option.bind_eq_some_iff.1 h
  obtain ⟨me, hm, rfl⟩ := Option.map_eq_some_iff.1 hf
  exact ⟨_, exec_of_fields hi s, (runFrame_code s f).trans (lookupCode_of_W2 hW2 hm)⟩

/-- ROM_DEFAULT meets W2: every present slot has a known unit (20_memory.md R61). -/
theorem romDefault_W2 : romDefault.W2 := by
  decide

/-- Settles O39: ROM_DEFAULT meets W2, so a class measures where its slot is present, and which slots are is read off
the tables at each of the eight range indexes. -/
theorem defaultRomSlotsOfEachClass : Obligations.DefaultRomSlotsOfEachClass := by
  intro s o hz hc i good hmem
  have hrom : s.config.rom = romDefault := congrArg Config.rom hc
  refine exec_code_of_slotPresent (hrom ▸ romDefault_W2) ?_
  rw [hrom]
  refine List.map_inj_left (f := fun c => c.1.fields.bind (slotPresent romDefault)) (g := fun c => some c.2) |>.1
    ?_ _ hmem
  obtain ⟨⟨⟨ridx, hridx⟩⟩, _⟩ := o
  interval_cases ridx <;> rfl

end Sys2Proof.Machine
end

section
/-! SUPPORT. The statements of 44_bcd_value_decoder.md: the decimal composition of the digits (R196, R197), the displayed
value (R202) and the negative zero (R200). -/

namespace Sys2Proof.Machine

/-! ## Decimal composition -/

/-- The exact decimal composition of a list of digits, most significant first (44_bcd_value_decoder.md R196). -/
def compose (ds : List (BitVec 4)) : Nat :=
  ds.foldl (fun a d => a * 10 + d.toNat) 0

theorem compose_append_singleton (ds : List (BitVec 4)) (d : BitVec 4) :
    compose (ds ++ [d]) = compose ds * 10 + d.toNat :=
  List.foldl_concat ..

/-- Digits of at most `b` compose to at most the repdigit of `b`, `b * (10 ^ n - 1) / 9`. -/
theorem nine_mul_compose_add_le {ds : List (BitVec 4)} {b : Nat} (h : ∀ d ∈ ds, d.toNat ≤ b) :
    9 * compose ds + b ≤ b * 10 ^ ds.length := by
  induction ds using List.reverseRecOn with
  | nil => simp [compose]
  | append_singleton ds d ih =>
    have hds := ih fun x hx => h x (List.mem_append_left _ hx)
    have hd := h d (by simp)
    rw [compose_append_singleton, List.length_append, List.length_singleton, pow_succ, ← mul_assoc]
    omega

/-- A composition of at most `n` nibbles is at most the repdigit of 15. -/
theorem nine_mul_compose_le_of_length_le {ds : List (BitVec 4)} {n : Nat} (h : ds.length ≤ n) :
    9 * compose ds + 15 ≤ 15 * 10 ^ n :=
  (nine_mul_compose_add_le fun d _ => Nat.le_of_lt_succ d.isLt).trans
    (Nat.mul_le_mul_left 15 (Nat.pow_le_pow_right (by decide) h))

/-- Up to five digits the 18-bit accumulator holds the exact composition (44_bcd_value_decoder.md R197). -/
theorem foldl_accStep_toNat {ds : List (BitVec 4)} (h : ds.length ≤ 5) :
    (ds.foldl accStep 0#18).toNat = compose ds := by
  induction ds using List.reverseRecOn with
  | nil => rfl
  | append_singleton ds d ih =>
    rw [List.length_append, List.length_singleton] at h
    have hacc : (ds.foldl accStep 0#18).toNat = compose ds := ih (by omega)
    have hbound := nine_mul_compose_le_of_length_le (ds := ds) (n := 4) (by omega)
    rw [List.foldl_concat, accStep_toNat _ _ (by omega), hacc, compose_append_singleton]

/-- Settles O40: the first k digits are at most five, so the accumulator is their exact composition, which is at
most the repdigit of the largest digit. -/
theorem accumulatorNeverOverflows : Obligations.AccumulatorNeverOverflows := by
  refine fun o => ⟨fun k => ?_, accumulate_toNat o, fun hdigits => ?_⟩
  · have hlen : ((digits o).take k).length ≤ 5 := List.length_take_le' k (digits o)
    have hbound := nine_mul_compose_le_of_length_le hlen
    rw [foldl_accStep_toNat hlen]
    exact ⟨rfl, by omega⟩
  · have hbound : 9 * compose (digits o) + 9 ≤ 9 * 10 ^ 5 := nine_mul_compose_add_le hdigits
    rw [accumulate, foldl_accStep_toNat (ds := digits o) (Nat.le_refl 5)]
    omega

/-! ## The displayed value -/

/-- Settles O41: a DEC that ends OK measured by the slot the lookup met, which is the selected one. -/
theorem displayedValueEquation : Obligations.DisplayedValueEquation := by
  refine fun s me re _ hm hs => ⟨_, rfl, fun hcode => ?_⟩
  obtain ⟨-, me', re', ne, hm', hs', -, ht⟩ := exec_dec_ok rfl hcode
  obtain rfl := Option.some.inj (hm.symm.trans hm')
  obtain rfl := Option.some.inj (hs.symm.trans hs')
  rw [ht]
  exact withOk_displayed ..

/-! ## Negative zero -/

section
variable (s : State) (msel : BitVec 4) (percent hz : Bool) {o : FrameOps} (re : RangeEntry) (ne : NormEntry)

/-- NEG of a measurement is its minus bit (44_bcd_value_decoder.md R199). -/
theorem withOk_neg : (s.withOk msel percent hz o re ne).neg = BitVec.ofBool o.minus := by
  simp only [State.withOk]
  cases o.minus <;> rfl

/-- A magnitude of 0 denotes 0, displayed and normalised, whatever the sign (44_bcd_value_decoder.md R200). -/
theorem withOk_zero (h : magnitude o = 0) :
    (s.withOk msel percent hz o re ne).mag = 0#18 ∧ (s.withOk msel percent hz o re ne).displayed = 0 ∧
    (s.withOk msel percent hz o re ne).normalised = 0 := by
  have hdisplayed : (s.withOk msel percent hz o re ne).displayed = 0 := by
    rw [withOk_displayed, h, Nat.cast_zero, mul_zero, zero_mul]
  refine ⟨BitVec.eq_of_toNat_eq ((withOk_mag_toNat ..).trans h), hdisplayed, ?_⟩
  rw [withOk_normalised, hdisplayed, zero_mul]

end

/-- Settles O42: NEG and FLAGS.minus of a measurement are both the frame's minus bit, for every magnitude. -/
theorem negativeZeroIsKept : Obligations.NegativeZeroIsKept := by
  refine fun s => ⟨_, rfl, fun hcode => ?_⟩
  obtain ⟨-, _, re, ne, -, -, -, ht⟩ := exec_dec_ok rfl hcode
  obtain ⟨-, hflag, -⟩ := withOk_flags_bits s s.selector s.percentBit s.hzBit s.operands re ne
  rw [ht, withOk_neg, hflag]
  refine ⟨rfl, fun hminus hzero => ?_⟩
  obtain ⟨hmag, hdisplayed, hnormalised⟩ := withOk_zero s s.selector s.percentBit s.hzBit re ne hzero
  exact ⟨congrArg BitVec.ofBool hminus, hmag, hminus, hdisplayed, hnormalised⟩

end Sys2Proof.Machine
end

section
/-! SUPPORT. The statements of 45_unit_normalizer.md: the normalised value (R210), idempotence on canonical units (R211),
the reachability of InternalInvariantError (R212) and the range of the exponents (R213). -/

namespace Sys2Proof.Machine

/-! ## The normalised value -/

/-- Settles O43: a DEC that ends OK normalised by the NORMROM entry of the unit it displays. -/
theorem normalisedValueIsTheScaledDisplayedValue : Obligations.NormalisedValueIsTheScaledDisplayedValue := by
  refine fun s => ⟨_, rfl, fun hcode => ?_⟩
  obtain ⟨-, _, re, ne, -, -, hn, ht⟩ := exec_dec_ok rfl hcode
  rw [ht]
  exact ⟨ne, hn, rfl, withOk_normalised ..⟩

/-! ## Idempotence -/

/-- A unit that is its own canonical unit, with exponent 0, passes through NORM (45_unit_normalizer.md R210). -/
theorem normalise_of_fixed_point {rom : Rom} {unit : BitVec 5} (h : rom.norm unit = some ⟨0#5, unit⟩)
    (tsel : TableSel) (msel : BitVec 4) (ridx : BitVec 3) (e : BitVec 4) :
    normalise rom tsel msel ridx e unit = .ok (e.signExtend 6, unit) := by
  have hzero : e.signExtend 6 + (0#5).signExtend 6 = e.signExtend 6 := BitVec.add_zero _
  simp only [normalise, h, hzero]

/-- Settles O44: W3 makes every canonical unit a fixed point, and NUNIT is the canonical unit of an entry. -/
theorem normalisationIsIdempotent : Obligations.NormalisationIsIdempotent := by
  refine ⟨fun rom hW3 u n hn => normalise_of_fixed_point (hW3 u n hn), fun s hW3 => ⟨_, rfl, fun hcode => ?_⟩⟩
  obtain ⟨-, _, re, ne, -, -, hn, ht⟩ := exec_dec_ok rfl hcode
  rw [ht]
  exact hW3 re.unit ne hn

/-! ## A frame in the buffer -/

/-- The frame of a selector and a range index with digits 00000 and no flag. -/
def plainFrame (msel : BitVec 4) (ridx : BitVec 3) : FrameFields where
  msel    := msel
  percent := false
  hz      := false
  ops     := { (frameOfFlags 0#13).ops with ridx := ridx }

/-- The reset state under a ROM image, with a frame in the buffer. -/
def stateOfFrame (rom : Rom) (f : FrameFields) : State :=
  { State.reset with fb := assemble 0#4 f, len := 14#4, config := { configDefault with rom := rom } }

/-- DEC over a frame in the buffer measures that frame. -/
theorem exec_dec_stateOfFrame (rom : Rom) (f : FrameFields) :
    exec .dec (stateOfFrame rom f) = .next ((stateOfFrame rom f).runFrame f) := by
  have hvalidated : (stateOfFrame rom f).Validated := ⟨rfl, rfl, rfl⟩
  have hframe := (frameFields_eq (stateOfFrame rom f)).symm.trans (frameFields_assemble 0#4 f)
  rw [exec_dec_of_validated hvalidated, hframe]

/-! ## The reachability of InternalInvariantError -/

/-- Where every unit has an entry (W2), no lookup leads to InternalInvariantError (45_unit_normalizer.md R212). -/
theorem lookupCode_ne_four {rom : Rom} (hW2 : rom.W2) (msel : BitVec 4) (percent hz : Bool) (ridx : BitVec 3) :
    lookupCode rom msel percent hz ridx ≠ 4#3 := by
  cases hm : rom.mode msel with
  | none => simp [lookupCode_of_mode_none hm]
  | some me =>
    rw [lookupCode_of_W2 hW2 hm]
    split <;> decide

/-- ROM_DEFAULT is admissible (20_memory.md R61). -/
theorem romDefault_admissible : romDefault.Admissible := by
  refine ⟨?_, romDefault_W2, ?_, ?_, ?_, ?_, ?_, ?_⟩ <;> decide

/-- An image with a present slot of a reserved unit code: slot 0 of the voltage table has unit 16
(45_unit_normalizer.md R212). -/
def romReservedUnit : Rom :=
  { romDefault with ranges := romDefault.ranges.set 1 (RomDefault.tableV.set 0 (RomDefault.present 0 16 (-4))) }

/-- Settles O45: under W2 no lookup ends with CODE 4, and the slot of `romReservedUnit` does. -/
theorem internalErrorNeedsAnInadmissibleRom : Obligations.InternalErrorNeedsAnInadmissibleRom := by
  refine ⟨fun s hrom => ?_, romDefault_admissible, stateOfFrame romReservedUnit (plainFrame 0xB#4 0#3), _, ?_,
    exec_dec_stateOfFrame .., ?_⟩
  · obtain ⟨-, hW2, -⟩ := hrom
    by_cases hv : s.Validated
    · obtain ⟨t, ht, hcode⟩ := exec_dec_code hv
      exact ⟨t, ht, hcode.trans_ne (lookupCode_ne_four hW2 _ _ _ _)⟩
    · refine ⟨_, exec_dec_of_not_validated hv, ?_⟩
      rw [withError_code]
      decide
  · intro hW2
    exact absurd (hW2 1#4 0#3 _ rfl) (by decide)
  · rw [runFrame_code]
    rfl

/-! ## The range of the exponents -/

/-- The exponents of ROM_DEFAULT: each present slot's, and its sum with that of the slot's unit
(45_unit_normalizer.md R213). -/
theorem romDefault_exponents :
    ∀ (tid : BitVec 4) (ridx : BitVec 3), ∀ re ∈ romDefault.slot tid ridx, ∀ ne ∈ romDefault.norm re.unit,
      -4 ≤ re.sexp.toInt ∧ re.sexp.toInt ≤ 0 ∧
      -12 ≤ re.sexp.toInt + ne.exp.toInt ∧ re.sexp.toInt + ne.exp.toInt ≤ 4 := by
  decide

/-- Every entry of ROM_DEFAULT that a mode's own table leads to is that of some measurement. -/
theorem exists_exec_dec_nexp {msel : BitVec 4} {ridx : BitVec 3} {me : ModeEntry} {re : RangeEntry} {ne : NormEntry}
    (hm : romDefault.mode msel = some me) (hs : romDefault.slot me.tid ridx = some re)
    (hn : romDefault.norm re.unit = some ne) :
    ∃ s t, s.config = configDefault ∧ exec .dec s = .next t ∧ t.code = 0#3 ∧
      t.nexp.toInt = re.sexp.toInt + ne.exp.toInt := by
  refine ⟨stateOfFrame romDefault (plainFrame msel ridx), _, rfl, exec_dec_stateOfFrame .., ?_⟩
  rw [runFrame_ok (f := plainFrame msel ridx) hm hs hn]
  obtain ⟨hsum, -⟩ := nexp_toInt re.sexp ne.exp
  exact ⟨withOk_code .., hsum⟩

/-- Settles O46: the field widths bound the sum for every image, the entries of ROM_DEFAULT bound it there, and the
ends are nF at "22.000" (capacitance, range index 0) and MHz at "220.00" (frequency, range index 7). -/
theorem normalisedExponentRange : Obligations.NormalisedExponentRange := by
  refine ⟨fun s => ⟨_, rfl, fun hcode => ?_⟩, exists_exec_dec_nexp (msel := 6#4) (ridx := 0#3) rfl rfl rfl,
    exists_exec_dec_nexp (msel := 2#4) (ridx := 7#3) rfl rfl rfl⟩
  obtain ⟨-, _, re, ne, -, hs, hn, ht⟩ := exec_dec_ok rfl hcode
  obtain ⟨hsum, hlow, hhigh⟩ := nexp_toInt re.sexp ne.exp
  have hnexp : (s.withOk s.selector s.percentBit s.hzBit s.operands re ne).nexp.toInt =
      re.sexp.toInt + ne.exp.toInt := hsum
  rw [ht, hnexp]
  refine ⟨⟨ne, hn, rfl⟩, hlow, hhigh, fun hconfig => ?_⟩
  rw [hconfig] at hs hn
  exact romDefault_exponents _ _ re hs ne hn

end Sys2Proof.Machine
end

section
/-! SUPPORT. The statements of 46_measurement_assembler.md: the registers of an OK outcome (R221), and the outcome as a
function of the candidate and the configuration (R223). -/

namespace Sys2Proof.Machine

/-- Settles O26, by the case of DEC over a present slot whose unit is known. -/
theorem validatedFrameIsMeasured : Obligations.ValidatedFrameIsMeasured :=
  fun _ _ _ _ => exec_dec_of_slot

/-- Where LEN is not 14, Decode does not consult FB (46_measurement_assembler.md R223). -/
theorem decodeBuffer_of_len_ne {n : BitVec 4} (h : n ≠ 14#4) (config : Config) (fb : FrameBytes) :
    decodeBuffer config n fb = .error (.framing n) := by
  rw [decodeBuffer, validate, beq_false_of_ne h, Bool.false_and]
  rfl

/-- Settles O32: both states have the same outcome of Decode, and the results are those of the outcome. -/
theorem decIsAFunctionOfTheCandidate : Obligations.DecIsAFunctionOfTheCandidate := by
  intro s s' hlen hconfig hfb
  have houtcome : decodeBuffer s'.config s'.len s'.fb = decodeBuffer s.config s.len s.fb := by
    rw [hlen, hconfig]
    rcases hfb with hfb | hne
    · rw [hfb]
    · rw [decodeBuffer_of_len_ne hne, decodeBuffer_of_len_ne hne]
  exact ⟨_, s'.commit (decodeBuffer s.config s.len s.fb), rfl,
    congrArg (fun out => Host.Outcome.next (s'.commit out)) houtcome, commit_sameResults ..⟩

end Sys2Proof.Machine
end

section
/-! SUPPORT. The statements of 60_exceptions.md: the four error conditions (R232 to R235) and their order (R238), the five
outcomes (R230), and a DEC that follows any outcome (R241). -/

namespace Sys2Proof.Machine

/-! ## The error conditions of a DEC -/

section
variable {s : State} {me : ModeEntry} {re : RangeEntry}

/-- DEC over an undefined selector takes UnsupportedModeError (60_exceptions.md R233). -/
theorem exec_dec_of_mode_none (hv : s.Validated) (hm : s.config.rom.mode s.selector = none) :
    exec .dec s = .next (s.withError 0x12#6 (s.selector.zeroExtend 9)) := by
  rw [exec_dec_of_validated hv]
  exact congrArg Host.Outcome.next (runFrame_mode_none hm)

/-- DEC over a present slot whose unit is unknown takes InternalInvariantError (60_exceptions.md R235). -/
theorem exec_dec_of_norm_none (hv : s.Validated) (hm : s.config.rom.mode s.selector = some me)
    (hs : s.config.rom.slot (tableId s.config.rom s.percentBit s.hzBit me) s.rangeIndex = some re)
    (hn : s.config.rom.norm re.unit = none) :
    exec .dec s = .next
      (s.withError 0x14#6 (tableSelCode s.percentBit s.hzBit ++ s.rangeIndex ++ s.selector)) := by
  rw [exec_dec_of_validated hv]
  exact congrArg Host.Outcome.next (runFrame_norm_none hm hs hn)

end

/-- The outcomes of a lookup: OK and the three error conditions behind VALIDATE (60_exceptions.md R231). -/
theorem lookupCode_mem (rom : Rom) (msel : BitVec 4) (percent hz : Bool) (ridx : BitVec 3) :
    lookupCode rom msel percent hz ridx ∈ [0#3, 2#3, 3#3, 4#3] := by
  cases hm : rom.mode msel with
  | none => simp [lookupCode_of_mode_none hm]
  | some me =>
    cases hs : rom.slot (tableId rom percent hz me) ridx with
    | none => simp [lookupCode_of_slot_none hm hs]
    | some re =>
      rw [lookupCode_of_slot hm hs]
      split <;> decide

/-- Settles O23: a candidate fails VALIDATE, or its CODE is that of a lookup, which is never 1. -/
theorem unvalidatedCandidateIsInvalid : Obligations.UnvalidatedCandidateIsInvalid := by
  refine fun s => ⟨exec_dec_of_not_validated, fun hv => ?_⟩
  obtain ⟨t, ht, hcode⟩ := exec_dec_code hv
  exact ⟨t, ht, hcode ▸ ne_of_mem_of_not_mem (lookupCode_mem ..) (by decide)⟩

/-- Settles O27: CODE 2 is the outcome of exactly the undefined selectors. -/
theorem undefinedModeIsReported : Obligations.UndefinedModeIsReported := by
  refine fun s hv => ⟨exec_dec_of_mode_none hv, fun hm => ?_⟩
  obtain ⟨t, ht, hcode⟩ := exec_dec_code hv
  exact ⟨t, ht, hcode ▸ (lookupCode_eq_two_iff ..).not.2 hm⟩

/-- Settles O28: the outcome of a defined mode is decided by the slot of the selected table. -/
theorem absentSlotIsReported : Obligations.AbsentSlotIsReported := by
  refine fun s me hv hm => ⟨exec_dec_of_slot_none hv hm, fun hs => ?_⟩
  obtain ⟨re, hs⟩ := Option.ne_none_iff_exists'.1 hs
  obtain ⟨t, ht, -, hpresent⟩ := exec_dec_by_slot hv hm
  obtain ⟨hcode, -⟩ := hpresent re hs
  exact ⟨t, ht, hcode⟩

/-- Settles O29: a present slot measures where its unit has an entry, and has the error condition where it has none. -/
theorem unknownUnitIsReported : Obligations.UnknownUnitIsReported := by
  refine fun s me re hv hm hs => ⟨exec_dec_of_norm_none hv hm hs, fun hn => ?_⟩
  obtain ⟨ne, hn⟩ := Option.ne_none_iff_exists'.1 hn
  exact ⟨_, exec_dec_of_slot hv hm hs hn, withOk_code ..⟩

/-! ## The outcomes of a DEC -/

/-- Settles O30: VALIDATE comes before the lookup, and the lookup takes its conditions in stage order. -/
theorem firstConditionInStageOrderIsReported : Obligations.FirstConditionInStageOrderIsReported := by
  intro s
  by_cases hv : s.Validated
  · obtain ⟨t, ht, hcode⟩ := exec_dec_code hv
    refine ⟨t, ht, ?_⟩
    rw [hcode, if_neg (not_not.2 hv)]
    cases hm : s.config.rom.mode s.selector with
    | none => exact lookupCode_of_mode_none hm
    | some me =>
      cases hs : s.config.rom.slot (tableId s.config.rom s.percentBit s.hzBit me) s.rangeIndex with
      | none => simp only [lookupCode_of_slot_none hm hs, hs]
      | some re =>
        simp only [lookupCode_of_slot hm hs, hs]
        cases s.config.rom.norm re.unit <;> rfl
  · refine ⟨_, exec_dec_of_not_validated hv, ?_⟩
    rw [if_pos hv]
    rfl

/-- The CODE of a DEC is that of an outcome: never 7, which is RST's, nor 5 or 6 (60_exceptions.md R230, R231). -/
theorem exec_dec_code_mem (s : State) :
    ∃ t, exec .dec s = .next t ∧ t.code ∈ [0#3, 1#3, 2#3, 3#3, 4#3] := by
  by_cases hv : s.Validated
  · obtain ⟨t, ht, hcode⟩ := exec_dec_code hv
    have hsub : [0#3, 2#3, 3#3, 4#3] ⊆ [0#3, 1#3, 2#3, 3#3, 4#3] := by decide
    exact ⟨t, ht, hcode ▸ hsub (lookupCode_mem ..)⟩
  · refine ⟨_, exec_dec_of_not_validated hv, ?_⟩
    rw [withError_code]
    decide

/-- Settles O31: VALID and FAIL follow CODE by the invariant of 10_state.md R37, and CODE is one of five. -/
theorem everyDecEndsInOneOfFiveOutcomes : Obligations.EveryDecEndsInOneOfFiveOutcomes := by
  intro s
  obtain ⟨t, ht, hmem⟩ := exec_dec_code_mem s
  obtain ⟨⟨hvalid, hfail, -⟩, -⟩ := inv_of_exec_dec ht
  refine ⟨t, ht, ?_⟩
  simp only [List.mem_cons, List.not_mem_nil, or_false] at hmem
  rcases hmem with h | h | h | h | h <;> simpa [h] using And.intro hvalid hfail

/-! ## The error conditions of a frame class -/

/-- Settles O53: a class runs the shared operation on its fields, which takes the first condition. -/
theorem frameClassesTakeTheFirstCondition : Obligations.FrameClassesTakeTheFirstCondition := by
  refine fun s i f hi => ⟨exec_of_mode_none hi, fun me hm => ⟨exec_of_slot_none hi hm, fun re hs hn => ?_⟩⟩
  rw [exec_of_fields hi, runFrame_norm_none hm hs hn]

/-! ## The DEC after any outcome -/

/-- The results of a frame are a function of its fields and the configuration (46_measurement_assembler.md R223). -/
theorem runFrame_sameResults {s s' : State} (f : FrameFields) (h : s.config = s'.config) :
    SameResults (s.runFrame f) (s'.runFrame f) := by
  rw [State.runFrame, State.runFrame, h]
  exact commit_sameResults ..

/-- Settles O58: a DEC empties the buffer and keeps the configuration, and those are all a sent frame takes. -/
theorem noErrorIsSticky : Obligations.NoErrorIsSticky := by
  intro s hi f i hfields
  obtain ⟨t, ht, -, hlen, hconfig, -⟩ := decodingLeavesTheBufferAndEmptiesIt .dec s (.inl rfl)
  have hsend := (sendRunsTheClassOfItsFrame hi f i t hlen hfields).trans (exec_of_fields hfields _)
  obtain ⟨-, hempty, -⟩ := commit_frame { t with fb := assemble hi f, len := 14#4 } (decodeFields t.config f)
  exact ⟨t, _, _, ht, hlen, hsend, exec_of_fields hfields _, runFrame_sameResults f hconfig, hempty⟩

end Sys2Proof.Machine
end
